-- ==== Sys2Proof/Word.lean ====
section
/-! DEFINITION. The word types of the NCK-I2C block: bytes on the bus and 32-bit host words (spec R7 REG_WIDTH, R10). -/

namespace Sys2Proof

/-- One byte on the bus or in a buffer. -/
abbrev Byte := BitVec 8

/-- One host register word (R7: `REG_WIDTH` = 32). -/
abbrev Word := BitVec 32

end Sys2Proof
end

