-- ==== Sys2Proof/Config.lean ====
section
/-! DEFINITION. What the implementation fixes (R7, R8) and the free values of the model: the target's behaviour on the bus (R11, R114) and the interleaving of the agents (R12, R54). -/

namespace Sys2Proof

/-- The acknowledge bit of one byte (glossary of 00_scope.md): ACK or NACK. -/
inductive Ack where
  | ack
  | nack
  deriving DecidableEq, Repr, Inhabited

/-- The inputs of ONE engine step (R11): `draw_timeout()`, `draw_ack()`, `draw_byte()`, and how many of the
symbol's line settings the block had applied when a timeout struck (R110 leaves it open, log entry 9).
A step reads only the ones its rule draws. Each is what the line sequences sample of the target (R114). -/
structure Draw where
  timeout : Bool
  ack     : Ack
  byte    : Byte
  abortAt : Nat
  deriving DecidableEq, Repr, Inhabited

/-- One look of the block at the bus (R100, R106): whether the target pulls SCL low and whether it pulls SDA low. -/
structure Look where
  pullsScl : Bool
  pullsSda : Bool
  deriving DecidableEq, Repr, Inhabited

/-- What the target does on the lines during ONE engine step, as the block sees it (R106, R114; log entry 22): the looks of the idle
wait before a START (R103), and for each driver setting of the symbol in order the looks while that setting holds. A wait ends at the
first look that finds the line released, and the timeout expires in a wait with no such look. -/
structure TargetLine where
  idle     : List Look
  settings : List (List Look)
  deriving DecidableEq, Repr, Inhabited

/-- Which agent makes the next move (R12, R170): the host, the engine, or the platform asserting reset. -/
inductive Turn where
  | host
  | engine
  | reset
  deriving DecidableEq, Repr, Inhabited

/-- `BUF_DEPTH` (R7, D6). -/
def Config.bufDepth : Nat := 8

/-- `REPORT_LEN` (R7): "exactly 6 bytes per read". -/
def Config.reportLen : Nat := 6

/-- OPEN (R7, R52, D2): the host address of the register window. Only `HostAccess.address` names it. -/
opaque Config.base : Nat

/-- OPEN (R7, D14): the per-transaction timeout. No rule reads it. -/
opaque Config.tTimeout : Nat

/-- OPEN (R9, D30): the host's sampling period. No rule of the block reads it. -/
opaque Config.samplePeriod : Nat

/-- Opaque bus configuration (R8, D35): the bus identifier. No rule reads it. DESIGN CHOICE (log entry 20): the spec gives it no width,
and the model takes a number. -/
opaque Config.busId : Nat

/-- Opaque bus configuration (R8, D35): the pin of SCL. No rule reads it. DESIGN CHOICE (log entry 20): a number. -/
opaque Config.pinScl : Nat

/-- Opaque bus configuration (R8, D35): the pin of SDA. No rule reads it. DESIGN CHOICE (log entry 20): a number. -/
opaque Config.pinSda : Nat

/-- Opaque bus configuration (R8, D35): the clock speed. No rule reads it (R113). DESIGN CHOICE (log entry 20): a number. -/
opaque Config.fScl : Nat

/-- Opaque bus configuration (R8, D35): the pull-up enable flags. No rule reads it. DESIGN CHOICE (log entry 20): the source speaks of
flags and the spec gives PULLUP_EN no width; the model takes one Boolean for both lines. -/
opaque Config.pullupEn : Bool

/-- FREE VALUE (R11, D28, log entry 4): what the target does on the lines at the step numbered `n`, when no answer is lined up in
the state. It has no body, so no proof can know it. -/
opaque Config.target : Nat → TargetLine

/-- FREE VALUE (R12, D34, log entry 3): which agent moves at the step numbered `n`, when no turn is lined up in the
state. It has no body, so no proof can know it. -/
opaque Config.turn : Nat → Turn

end Sys2Proof
end

