-- ==== Sys2Proof/Syntax.lean ====
section
/-! DEFINITION. Syntax: the registers of the window (R34), a host access (R11, R74), the two request formats of the opcode table, the instructions (one constructor for each row of spec/opcode_table.json) and the operations of a host program (R74, R75, R133, R136). -/

namespace Sys2Proof

/-- The eleven registers of the window (R34). -/
inductive Reg where
  | cmd
  | status
  | txdata0
  | txdata1
  | rxdata0
  | rxdata1
  | report0
  | report1
  | decAnalog
  | decAccel
  | decButtons
  deriving DecidableEq, Repr, Inhabited

/-- The direction of a host access; a write carries the value it writes (R74). -/
inductive AccessDir where
  | read
  | write (v : Word)
  deriving DecidableEq, Repr, Inhabited

/-- One host access (R11): `MemRead(off, width)` or `MemWrite(off, width, v)`, the offset in bytes from BASE, the width in
bytes. Every offset and width can be written down; which have a meaning is the decoder's business (R35, R37). -/
structure HostAccess where
  offset : Nat
  width  : Nat
  dir    : AccessDir
  deriving DecidableEq, Repr, Inhabited

/-- The host address of an access (R52): the window starts at BASE. -/
def HostAccess.address (a : HostAccess) : Nat := Config.base + a.offset

/-- What the host presents to the block, in one of the opcode table's two formats: a HOST_ACCESS, or a CMD word, which
stands for the CMD write that issues it (R79; log entry 7). -/
inductive Request where
  | access (a : HostAccess)
  | command (v : Word)
  deriving DecidableEq, Repr, Inhabited

/-- The instructions: one constructor for each row of spec/opcode_table.json. -/
inductive Instr where
  /-- WRITE (R80): a CMD word with RW = 0 and a legal LEN. -/
  | write (addr : BitVec 7) (len : BitVec 4)
  /-- READ (R81): a CMD word with RW = 1 and a legal LEN. -/
  | read (addr : BitVec 7) (len : BitVec 4)
  /-- CMD_REJECTED (R82): any other CMD word. -/
  | cmdRejected (v : Word)
  /-- WR CMD (R40). -/
  | wrCmd (v : Word)
  /-- RD CMD (R41). -/
  | rdCmd
  /-- RD STATUS (R42). -/
  | rdStatus
  /-- WR TXDATA0 (R43). -/
  | wrTxdata0 (v : Word)
  /-- WR TXDATA1 (R43). -/
  | wrTxdata1 (v : Word)
  /-- RD TXDATA0 (R44). -/
  | rdTxdata0
  /-- RD TXDATA1 (R44). -/
  | rdTxdata1
  /-- RD RXDATA0 (R45). -/
  | rdRxdata0
  /-- RD RXDATA1 (R45). -/
  | rdRxdata1
  /-- RD REPORT0 (R46). -/
  | rdReport0
  /-- RD REPORT1 (R46). -/
  | rdReport1
  /-- RD DEC_ANALOG (R47). -/
  | rdDecAnalog
  /-- RD DEC_ACCEL (R47). -/
  | rdDecAccel
  /-- RD DEC_BUTTONS (R47). -/
  | rdDecButtons
  /-- WR to a read-only register (R36). -/
  | wrReadOnly (r : Reg) (v : Word)
  deriving DecidableEq, Repr, Inhabited

/-- Why the decoder rejects a host access (R35, R37). -/
inductive DecodeError where
  | badAccess
  | unmapped
  deriving DecidableEq, Repr, Inhabited

/-- The local words of the host's driver: `s1`, `s2`, `a`, `c`, `b` of `readReport()` (R136) and the two RXDATA words of
`I2C.READ` (R75). -/
inductive HostVar where
  | s1
  | s2
  | a
  | c
  | b
  | rx0
  | rx1
  deriving DecidableEq, Repr, Inhabited

/-- One operation of a host program (R74, R75) or of the device-protocol driver (43_device_protocol.md). -/
inductive HostOp where
  /-- One request to the block. -/
  | request (r : Request)
  /-- `x <- RD REG` (R136). -/
  | load (x : HostVar) (r : Reg)
  /-- `x <- RD REG`, only if the ERR bit of `s1` is 0 (R75, R136). -/
  | loadIfOk (x : HostVar) (r : Reg)
  /-- `POLL` (R74): repeat `RD STATUS` until BUSY reads 0. -/
  | poll
  /-- `state <- Handshaking` (R133). -/
  | enterHandshaking
  /-- `state <- Ready`, the end of `initialize()` (R133). -/
  | enterReady
  /-- Call `initialize()` (R133). -/
  | runInitialize
  /-- Call `readReport()` (R136). -/
  | readReport
  /-- The `return` lines of `readReport()` (R136). -/
  | finishReport
  deriving DecidableEq, Repr, Inhabited

end Sys2Proof
end

