-- ==== Sys2Proof/WellFormed.lean ====
section
/-! DEFINITION. Well-formed instructions: the constraints of the opcode table's rows that the constructors' types do not carry. -/

namespace Sys2Proof

/-- A legal LEN (R64): 1 to 8. -/
def lenOk (len : BitVec 4) : Bool := decide (1 ≤ len.toNat) && decide (len.toNat ≤ 8)

/-- The registers a write is ignored for (R36). -/
def Reg.readOnly : Reg → Bool
  | .cmd => false
  | .txdata0 => false
  | .txdata1 => false
  | .status => true
  | .rxdata0 => true
  | .rxdata1 => true
  | .report0 => true
  | .report1 => true
  | .decAnalog => true
  | .decAccel => true
  | .decButtons => true

/-- The "constraint" column of the table: WRITE and READ have 1 ≤ LEN ≤ 8; CMD_REJECTED is a word with RSV ≠ 0 or LEN = 0 or
LEN ≥ 9; an ignored write names a read-only register. -/
def WellFormed : Instr → Bool
  | .write _ len => lenOk len
  | .read _ len => lenOk len
  | .cmdRejected v => decide (v.extractLsb' 12 20 ≠ 0#20) || decide (v.extractLsb' 8 4 = 0#4) || decide (9 ≤ (v.extractLsb' 8 4).toNat)
  | .wrReadOnly r _ => r.readOnly
  | .wrCmd _ => true
  | .rdCmd => true
  | .rdStatus => true
  | .wrTxdata0 _ => true
  | .wrTxdata1 _ => true
  | .rdTxdata0 => true
  | .rdTxdata1 => true
  | .rdRxdata0 => true
  | .rdRxdata1 => true
  | .rdReport0 => true
  | .rdReport1 => true
  | .rdDecAnalog => true
  | .rdDecAccel => true
  | .rdDecButtons => true

end Sys2Proof
end

