-- ==== Sys2Proof/Decode.lean ====
section
/-! DEFINITION. Decoding and encoding: the opcode map of CMD words (R61, R66), the register window's map (R34) with the checks of R35 and R37 in the order of R158, and the encoder written from the same tables. -/

namespace Sys2Proof

/-! ### The CMD format (R61) -/

/-- ADDR, bits 6:0 (R62). -/
def cmdAddr (v : Word) : BitVec 7 := v.extractLsb' 0 7

/-- RW, bit 7: set for a READ (R63). -/
def cmdRw (v : Word) : Bool := v.getLsbD 7

/-- LEN, bits 11:8 (R64). -/
def cmdLen (v : Word) : BitVec 4 := v.extractLsb' 8 4

/-- RSV, bits 31:12 (R65). -/
def cmdRsv (v : Word) : BitVec 20 := v.extractLsb' 12 20

/-- `legal(v)` of R66. -/
def cmdLegal (v : Word) : Bool :=
  decide (cmdRsv v = 0#20) && (decide (1 ≤ (cmdLen v).toNat) && decide ((cmdLen v).toNat ≤ Config.bufDepth))

/-- The opcode map (R66): every 32-bit word is a WRITE, a READ or a rejected word. -/
def decodeCmd (v : Word) : Instr :=
  if cmdLegal v then
    if cmdRw v then .read (cmdAddr v) (cmdLen v) else .write (cmdAddr v) (cmdLen v)
  else .cmdRejected v

/-- The CMD word with RSV = 0 and the fields given (R61, R75). -/
def cmdWord (rw : Bool) (addr : BitVec 7) (len : BitVec 4) : Word := 0#20 ++ len ++ BitVec.ofBool rw ++ addr

/-! ### The HOST_ACCESS format (R34) -/

/-- The byte offset of a register (R34). -/
def Reg.offset : Reg → Nat
  | .cmd => 0x00
  | .status => 0x04
  | .txdata0 => 0x08
  | .txdata1 => 0x0C
  | .rxdata0 => 0x10
  | .rxdata1 => 0x14
  | .report0 => 0x18
  | .report1 => 0x1C
  | .decAnalog => 0x20
  | .decAccel => 0x24
  | .decButtons => 0x28

/-- The register at a byte offset, if one is mapped there (R34, R37). -/
def regAt (off : Nat) : Option Reg :=
  if off = 0x00 then some .cmd
  else if off = 0x04 then some .status
  else if off = 0x08 then some .txdata0
  else if off = 0x0C then some .txdata1
  else if off = 0x10 then some .rxdata0
  else if off = 0x14 then some .rxdata1
  else if off = 0x18 then some .report0
  else if off = 0x1C then some .report1
  else if off = 0x20 then some .decAnalog
  else if off = 0x24 then some .decAccel
  else if off = 0x28 then some .decButtons
  else none

/-- The instruction that reads a register (R41, R42, R44 to R47). -/
def readInstr : Reg → Instr
  | .cmd => .rdCmd
  | .status => .rdStatus
  | .txdata0 => .rdTxdata0
  | .txdata1 => .rdTxdata1
  | .rxdata0 => .rdRxdata0
  | .rxdata1 => .rdRxdata1
  | .report0 => .rdReport0
  | .report1 => .rdReport1
  | .decAnalog => .rdDecAnalog
  | .decAccel => .rdDecAccel
  | .decButtons => .rdDecButtons

/-- The instruction that writes a register (R36, R40, R43). -/
def writeInstr (v : Word) : Reg → Instr
  | .cmd => .wrCmd v
  | .txdata0 => .wrTxdata0 v
  | .txdata1 => .wrTxdata1 v
  | .status => .wrReadOnly .status v
  | .rxdata0 => .wrReadOnly .rxdata0 v
  | .rxdata1 => .wrReadOnly .rxdata1 v
  | .report0 => .wrReadOnly .report0 v
  | .report1 => .wrReadOnly .report1 v
  | .decAnalog => .wrReadOnly .decAnalog v
  | .decAccel => .wrReadOnly .decAccel v
  | .decButtons => .wrReadOnly .decButtons v

/-- The instruction an access to a mapped register is. -/
def regInstr (r : Reg) : AccessDir → Instr
  | .read => readInstr r
  | .write v => writeInstr v r

/-- A host access of the right width and alignment (R35). -/
def HostAccess.aligned (a : HostAccess) : Bool := decide (a.width = 4) && decide (a.offset % 4 = 0)

/-- Decode a host access: the width and alignment check comes first, then the map (R158). -/
def decodeAccess (a : HostAccess) : Except DecodeError Instr :=
  if a.aligned then
    match regAt a.offset with
    | some r => .ok (regInstr r a.dir)
    | none => .error .unmapped
  else .error .badAccess

/-- Decode a request of either format. -/
def decode : Request → Except DecodeError Instr
  | .command v => .ok (decodeCmd v)
  | .access a => decodeAccess a

/-- The read of a register, as an access. -/
def readOf (r : Reg) : Request := .access ⟨r.offset, 4, .read⟩

/-- The write of a register, as an access. -/
def writeOf (r : Reg) (v : Word) : Request := .access ⟨r.offset, 4, .write v⟩

/-- The request that encodes an instruction. -/
def encode : Instr → Request
  | .write addr len => .command (cmdWord false addr len)
  | .read addr len => .command (cmdWord true addr len)
  | .cmdRejected v => .command v
  | .wrCmd v => writeOf .cmd v
  | .rdCmd => readOf .cmd
  | .rdStatus => readOf .status
  | .wrTxdata0 v => writeOf .txdata0 v
  | .wrTxdata1 v => writeOf .txdata1 v
  | .rdTxdata0 => readOf .txdata0
  | .rdTxdata1 => readOf .txdata1
  | .rdRxdata0 => readOf .rxdata0
  | .rdRxdata1 => readOf .rxdata1
  | .rdReport0 => readOf .report0
  | .rdReport1 => readOf .report1
  | .rdDecAnalog => readOf .decAnalog
  | .rdDecAccel => readOf .decAccel
  | .rdDecButtons => readOf .decButtons
  | .wrReadOnly r v => writeOf r v

/-! ### The opcode table's numbering -/

/-- The request that the bits of an opcode-table row stand for (log entry 5). A row of 32 bits is a CMD word. A shorter row
is a HOST_ACCESS: its bits 5:0 are the offset, and the table encodes neither the direction nor the value, so it is read as
the 32-bit READ of that offset. -/
def requestOfTable (nbits w : Nat) : Request :=
  if 32 ≤ nbits then .command (BitVec.ofNat 32 w) else .access ⟨w % 64, 4, .read⟩

/-- What the decoder reads from an opcode-table row's bits. -/
def decodeTableWord (nbits w : Nat) : Option Instr :=
  match decode (requestOfTable nbits w) with
  | .ok i => some i
  | .error _ => none

end Sys2Proof
end

