-- ==== Sys2Proof/Machine/State.lean ====
section
/-! DEFINITION. The state of the machine as plain data: every piece of state of 10_state.md, the host's driver state of 43_device_protocol.md, and the model's own inputs (turns and answers lined up); the reasons of host faults; the state after reset (R171). -/

namespace Sys2Proof.Machine

/-- The six host-fault reasons (R156). An access that commits one leaves the block unchanged but for the fault mark, and the
machine goes on (R157): no step of this machine ends in `Outcome.fault`. The same names are the contents of the fault
mark `State.fault`. -/
inductive Fault where
  /-- Raised by the decoder's width and alignment check (R35). Unsafe if a claim forgets the fault mark (log entry 1). -/
  | badAccess
  /-- Raised by the decoder's map (R37). Unsafe if a claim forgets the fault mark (log entry 1). -/
  | unmapped
  /-- Raised by a CMD write while BUSY (R40). Unsafe if a claim forgets the fault mark (log entry 1). -/
  | cmdWhileBusy
  /-- Raised by a TXDATA write while BUSY (R43). Unsafe if a claim forgets the fault mark (log entry 1). -/
  | txWhileBusy
  /-- Raised by an RXDATA read while RX_VALID = 0 (R45). Unsafe if a claim forgets the fault mark (log entry 1). -/
  | rxNotValid
  /-- Raised by a REPORT or DEC read while REPORT_VALID = 0 (R46, R47). Unsafe if a claim forgets the fault mark (log entry 1). -/
  | reportNotValid
  deriving DecidableEq, Repr, Inhabited

/-- The refusals. No step of this machine answers one: every instruction has its meaning. -/
inductive Refusal where
  /-- Raised by no arm of `exec`: every row of the opcode table is modelled. Safe. -/
  | notModelled (mnemonic : String)
  deriving DecidableEq, Repr

/-- The engine's position in the framing sequence (R22). -/
inductive Phase where
  | idle
  | start
  | addr
  | wdata
  | rdata
  | stop
  deriving DecidableEq, Repr, Inhabited

/-- The failure causes the block produces (R69); the reserved codes 5 to 7 are never produced (U11, log entry 13). -/
inductive Cause where
  | none
  | addrNack
  | dataNack
  | timeout
  | configRejected
  deriving DecidableEq, Repr, Inhabited

/-- The bus symbols (R76, R78). -/
inductive Symbol where
  /-- A start condition, `S`. -/
  | s
  /-- `TX(b, a)`: byte `b` sent by the block, answered `a` by the target. -/
  | tx (b : Byte) (a : Ack)
  /-- `RX(b, a)`: byte `b` sent by the target, answered `a` by the block. -/
  | rx (b : Byte) (a : Ack)
  /-- A stop condition, `P`. -/
  | p
  /-- The timeout release, `TO`. -/
  | timeoutRelease
  deriving DecidableEq, Repr, Inhabited

/-- One driver setting `(scl_low, sda_low)` of 41_bus_signalling.md section 2, with its "wait SCL" and "sample SDA_IN" marks. -/
structure LineStep where
  sclLow  : Bool
  sdaLow  : Bool
  waitScl : Bool
  sample  : Bool
  deriving DecidableEq, Repr, Inhabited

/-- An eight-byte buffer (R17, R18: BUF_DEPTH = 8). -/
structure Buf where
  b0 : Byte
  b1 : Byte
  b2 : Byte
  b3 : Byte
  b4 : Byte
  b5 : Byte
  b6 : Byte
  b7 : Byte
  deriving DecidableEq, Repr, Inhabited

/-- The six-byte report (R19); `b0` is the source's `bytes[0]`. -/
structure Report where
  b0 : Byte
  b1 : Byte
  b2 : Byte
  b3 : Byte
  b4 : Byte
  b5 : Byte
  deriving DecidableEq, Repr, Inhabited

/-- The decoded value (R20, glossary "Reading"). -/
structure Reading where
  analogX : BitVec 8
  analogY : BitVec 8
  accelX  : BitVec 10
  accelY  : BitVec 10
  accelZ  : BitVec 10
  buttonC : Bool
  buttonZ : Bool
  deriving DecidableEq, Repr, Inhabited

/-- The three states of the host's driver (R132). -/
inductive DriverState where
  | uninitialized
  | handshaking
  | ready
  deriving DecidableEq, Repr, Inhabited

/-- A call of the driver in progress: `initialize()` (R133) or `readReport()` (R136). -/
inductive DriverCall where
  | initializing
  | readReport
  deriving DecidableEq, Repr, Inhabited

/-- What a call of `readReport()` returns (R136, R141); a bus error carries the CAUSE code it read from STATUS. -/
inductive ReportResult where
  | reading (r : Reading)
  | busError (cause : BitVec 3)
  | notInitialized
  deriving DecidableEq, Repr, Inhabited

/-- The local words of the host's driver (R75, R136). -/
structure HostVars where
  s1  : Word
  s2  : Word
  a   : Word
  c   : Word
  b   : Word
  rx0 : Word
  rx1 : Word
  deriving DecidableEq, Repr, Inhabited

/-- The host agent (R12, R132): what is left of its program, its driver state and its local values. None of it is block
state. -/
structure HostAgent where
  program : List HostOp
  driver  : DriverState
  call    : Option DriverCall
  vars    : HostVars
  result  : Option ReportResult
  deriving DecidableEq, Repr, Inhabited

/-- The model's own inputs (log entries 3 and 4): the turns and the target's answers already lined up, and the number of
steps taken, which is the argument of the free values `Config.turn` and `Config.target`. -/
structure Environment where
  turns   : List Turn
  answers : List TargetLine
  tick    : Nat
  deriving DecidableEq, Repr, Inhabited

/-- The whole state. -/
structure State where
  /-- CMD: the last word written (R15). -/
  cmd : Word
  /-- DONE (R16). -/
  done : Bool
  /-- ERR (R16). -/
  err : Bool
  /-- CAUSE (R16, R69). -/
  cause : Cause
  /-- RX_VALID (R16). -/
  rxValid : Bool
  /-- REPORT_VALID (R16). -/
  reportValid : Bool
  /-- TXBUF (R17). -/
  txbuf : Buf
  /-- RXBUF (R18). -/
  rxbuf : Buf
  /-- REPORT (R19). -/
  report : Report
  /-- The engine phase (R22). -/
  phase : Phase
  /-- The payload index (R23). -/
  idx : BitVec 3
  /-- cur_addr (R24). -/
  curAddr : BitVec 7
  /-- cur_rw (R24): true is a READ. -/
  curRw : Bool
  /-- cur_len (R24). -/
  curLen : BitVec 4
  /-- cur_cause (R25). -/
  curCause : Cause
  /-- scl_low (R26): true pulls SCL low. -/
  sclLow : Bool
  /-- sda_low (R26): true pulls SDA low. -/
  sdaLow : Bool
  /-- The bus trace (R28), oldest symbol first. -/
  trace : List Symbol
  /-- The fault mark (R29). -/
  fault : Option Fault
  /-- The model's own record of the driver settings applied by the last engine step or reset, oldest first (log entry 9). -/
  lines : List LineStep
  /-- What the last host access returned; none for a write or a faulting access (log entry 2). -/
  reply : Option Word
  /-- The host agent. -/
  host : HostAgent
  /-- The model's own inputs. -/
  env : Environment
  deriving DecidableEq, Repr, Inhabited

/-- A buffer of zero bytes (R17, R18). -/
def Buf.zero : Buf := ⟨0, 0, 0, 0, 0, 0, 0, 0⟩

/-- A report of zero bytes (R19). -/
def Report.zero : Report := ⟨0, 0, 0, 0, 0, 0⟩

/-- The state right after the first reset (R170, R171): every block register at the value its rule gives, an empty trace and no
fault (R28, R29). The host has no program yet and its locals are the model's choice (log entries 6 and 11); nothing is
lined up (log entries 3 and 4). -/
def State.reset : State where
  cmd := 0
  done := false
  err := false
  cause := .none
  rxValid := false
  reportValid := false
  txbuf := Buf.zero
  rxbuf := Buf.zero
  report := Report.zero
  phase := .idle
  idx := 0
  curAddr := 0
  curRw := false
  curLen := 0
  curCause := .none
  sclLow := false
  sdaLow := false
  trace := []
  fault := none
  lines := []
  reply := none
  host := ⟨[], .uninitialized, none, ⟨0, 0, 0, 0, 0, 0, 0⟩, none⟩
  env := ⟨[], [], 0⟩

end Sys2Proof.Machine
end

