-- ==== Sys2Proof/Machine/Operands.lean ====
section
/-! DEFINITION. Operand forms: the byte of a buffer at an index, the DATA words of the buffers (R48, R71), the address byte (R67), the CAUSE codes (R69), the report decoder (R116 to R123) and the DEC words (R72, R128). -/

namespace Sys2Proof.Machine

/-! ### Buffers -/

/-- The byte of a buffer at a 3-bit index. -/
def Buf.get (b : Buf) (i : BitVec 3) : Byte :=
  match i.toNat with
  | 0 => b.b0
  | 1 => b.b1
  | 2 => b.b2
  | 3 => b.b3
  | 4 => b.b4
  | 5 => b.b5
  | 6 => b.b6
  | _ => b.b7

/-- The buffer with one byte replaced. -/
def Buf.set (b : Buf) (i : BitVec 3) (x : Byte) : Buf :=
  match i.toNat with
  | 0 => { b with b0 := x }
  | 1 => { b with b1 := x }
  | 2 => { b with b2 := x }
  | 3 => { b with b3 := x }
  | 4 => { b with b4 := x }
  | 5 => { b with b5 := x }
  | 6 => { b with b6 := x }
  | _ => { b with b7 := x }

/-- Four bytes as a DATA word, the lowest index in the lowest lane (R48). -/
def packWord (x0 x1 x2 x3 : Byte) : Word := x3 ++ x2 ++ x1 ++ x0

/-- Byte lane `n` of a DATA word (R48). -/
def lane (v : Word) (n : Nat) : Byte := v.extractLsb' (8 * n) 8

/-- Bytes 0 to 3 of a buffer as a word (R44, R45). -/
def Buf.low (b : Buf) : Word := packWord b.b0 b.b1 b.b2 b.b3

/-- Bytes 4 to 7 of a buffer as a word (R44, R45). -/
def Buf.high (b : Buf) : Word := packWord b.b4 b.b5 b.b6 b.b7

/-- The buffer with bytes 0 to 3 written from a word (R43). -/
def Buf.setLow (b : Buf) (v : Word) : Buf := { b with b0 := lane v 0, b1 := lane v 1, b2 := lane v 2, b3 := lane v 3 }

/-- The buffer with bytes 4 to 7 written from a word (R43). -/
def Buf.setHigh (b : Buf) (v : Word) : Buf := { b with b4 := lane v 0, b5 := lane v 1, b6 := lane v 2, b7 := lane v 3 }

/-! ### Reports -/

/-- REPORT0 (R46). -/
def Report.low (r : Report) : Word := packWord r.b0 r.b1 r.b2 r.b3

/-- REPORT1 (R46, R71): bytes 4 and 5, and zeros above. -/
def Report.high (r : Report) : Word := packWord r.b4 r.b5 0 0

/-- The first six bytes of a buffer as a report (R126). -/
def reportOf (b : Buf) : Report := ⟨b.b0, b.b1, b.b2, b.b3, b.b4, b.b5⟩

/-- One acceleration axis (R119 to R121): `(bytes[k] << 2) | ((bytes[5] >> shift) & 0b11)`, ten bits wide. -/
def accelField (hi b5 : Byte) (shift : Nat) : BitVec 10 := (hi.setWidth 10 <<< 2) ||| ((b5.setWidth 10 >>> shift) &&& 3#10)

/-- The report decoder (R116): a total function of the 48 bits of the report. -/
def decodeReport (r : Report) : Reading where
  analogX := r.b0
  analogY := r.b1
  accelX := accelField r.b2 r.b5 2
  accelY := accelField r.b3 r.b5 4
  accelZ := accelField r.b4 r.b5 6
  buttonC := !(r.b5.getLsbD 1)
  buttonZ := !(r.b5.getLsbD 0)

/-- DEC_ANALOG (R128). -/
def decAnalogWord (rd : Reading) : Word := 0#16 ++ rd.analogY ++ rd.analogX

/-- DEC_ACCEL (R128). -/
def decAccelWord (rd : Reading) : Word := 0#2 ++ rd.accelZ ++ rd.accelY ++ rd.accelX

/-- DEC_BUTTONS (R128). -/
def decButtonsWord (rd : Reading) : Word := 0#30 ++ BitVec.ofBool rd.buttonZ ++ BitVec.ofBool rd.buttonC

/-- The Reading a host takes from the three DEC words it read (R72, R136). -/
def readingOfWords (a c b : Word) : Reading where
  analogX := a.extractLsb' 0 8
  analogY := a.extractLsb' 8 8
  accelX := c.extractLsb' 0 10
  accelY := c.extractLsb' 10 10
  accelZ := c.extractLsb' 20 10
  buttonC := b.getLsbD 0
  buttonZ := b.getLsbD 1

/-! ### The wire -/

/-- ADDRBYTE (R67): the address above the direction bit. -/
def addrByte (addr : BitVec 7) (rw : Bool) : Byte := addr ++ BitVec.ofBool rw

/-- CAUSE codes (R69). -/
def Cause.code : Cause → BitVec 3
  | .none => 0
  | .addrNack => 1
  | .dataNack => 2
  | .timeout => 3
  | .configRejected => 4

end Sys2Proof.Machine
end

