-- ==== Sys2Proof/Machine/Flags.lean ====
section
/-! DEFINITION. The status flags: BUSY, the STATUS word (R68), and what an issue, a rejection and a completion write into them (R80 to R82, R90). -/

namespace Sys2Proof.Machine

/-- BUSY (R16, R22): it is not stored; it reads `phase ≠ IDLE`. -/
def State.busy (s : State) : Bool := decide (s.phase ≠ .idle)

/-- The STATUS word (R68), from bit 31 down to bit 0. -/
def statusWord (s : State) : Word :=
  0#22 ++ BitVec.ofBool s.reportValid ++ BitVec.ofBool s.rxValid ++ 0#1 ++ s.cause.code ++ 0#1 ++ BitVec.ofBool s.err
    ++ BitVec.ofBool s.done ++ BitVec.ofBool s.busy

/-- The BUSY bit of a STATUS word (R68, R74). -/
def statusBusy (w : Word) : Bool := w.getLsbD 0

/-- The ERR bit of a STATUS word (R68, R75). -/
def statusErr (w : Word) : Bool := w.getLsbD 2

/-- The CAUSE field of a STATUS word (R68, R75). -/
def statusCause (w : Word) : BitVec 3 := w.extractLsb' 4 3

/-- The flags at an accepted issue (R80, R81): DONE, ERR, CAUSE and RX_VALID cleared. -/
def State.clearFlags (s : State) : State := { s with done := false, err := false, cause := .none, rxValid := false }

/-- The flags of a rejected command (R82). -/
def State.rejectFlags (s : State) : State := { s with done := true, err := true, cause := .configRejected, rxValid := false }

/-- The command in flight has seen no failure: `ok` of R90. -/
def State.ok (s : State) : Bool := decide (s.curCause = .none)

/-- The flags at completion (R90). -/
def State.completeFlags (s : State) : State := { s with done := true, err := !s.ok, cause := s.curCause, rxValid := s.curRw && s.ok }

end Sys2Proof.Machine
end

