-- ==== Sys2Proof/Machine/Lines.lean ====
section
/-! DEFINITION. Clock and data control (41_bus_signalling.md): the driver settings of each bus symbol, the line levels, the bit order on the wire, the SCL pulses, the timeout release, and a sequence run against the target's pulls. -/

namespace Sys2Proof.Machine

/-! ### Levels (R100) -/

/-- `SCL_IN` (R100): low when the block or the target pulls. -/
def sclIn (sclLow targetPulls : Bool) : Bool := !(sclLow || targetPulls)

/-- `SDA_IN` (R100). -/
def sdaIn (sdaLow targetPulls : Bool) : Bool := !(sdaLow || targetPulls)

/-! ### Bits and bytes (R107, R108, R111) -/

/-- The bits of a byte in wire order: most significant first (R111). -/
def wireBits (b : Byte) : List Bool :=
  [b.getLsbD 7, b.getLsbD 6, b.getLsbD 5, b.getLsbD 4, b.getLsbD 3, b.getLsbD 2, b.getLsbD 1, b.getLsbD 0]

/-- The byte assembled from the bits received in order (R108); a list of eight bits fills it exactly. -/
def assembleBits (bits : List Bool) : Byte := bits.foldl (fun acc d => (acc <<< 1) ||| (BitVec.ofBool d).setWidth 8) 0

/-- The acknowledge a sampled `SDA_IN` means (R107): low is ACK. -/
def ackOfLevel (sda : Bool) : Ack := if sda then .nack else .ack

/-- The bit sent for an acknowledge (R108): 0 for ACK, 1 (released) for NACK. -/
def ackBit : Ack → Bool
  | .ack => false
  | .nack => true

/-! ### Sequences (section 2) -/

/-- Both lines released (R26, R101, R110). -/
def released : LineStep := ⟨false, false, false, false⟩

/-- START (R103). -/
def startLines : List LineStep := [⟨false, true, false, false⟩, ⟨true, true, false, false⟩]

/-- Transmit one bit (R104). -/
def sendBitLines (d : Bool) : List LineStep := [⟨true, !d, false, false⟩, ⟨false, !d, true, false⟩, ⟨true, !d, false, false⟩]

/-- Receive one bit (R105). -/
def recvBitLines : List LineStep := [⟨true, false, false, false⟩, ⟨false, false, true, true⟩, ⟨true, false, false, false⟩]

/-- The TX symbol (R107): eight bits sent, then one acknowledge bit received. -/
def txLines (b : Byte) : List LineStep := (wireBits b).flatMap sendBitLines ++ recvBitLines

/-- The RX symbol (R108): eight bits received, then the acknowledge bit sent. -/
def rxLines (a : Ack) : List LineStep := (List.replicate 8 recvBitLines).flatten ++ sendBitLines (ackBit a)

/-- STOP (R109). -/
def stopLines : List LineStep := [⟨true, true, false, false⟩, ⟨false, true, true, false⟩, ⟨false, false, false, false⟩]

/-- The settings that carry a whole symbol (R103 to R110). -/
def symbolLines : Symbol → List LineStep
  | .s => startLines
  | .tx b _ => txLines b
  | .rx _ a => rxLines a
  | .p => stopLines
  | .timeoutRelease => [released]

/-- The setting a symbol leaves the drivers at: the last of its sequence. -/
def endSetting : Symbol → LineStep
  | .s => ⟨true, true, false, false⟩
  | .tx _ _ => ⟨true, false, false, false⟩
  | .rx _ a => ⟨true, !(ackBit a), false, false⟩
  | .p => released
  | .timeoutRelease => released

/-- The SCL pulses of a sequence that starts after a setting with `scl_low = prev` (R112): a release of SCL followed by a pull
inside the sequence. `high` says that SCL was released inside the sequence and not yet pulled again. -/
def sclPulses (prev high : Bool) : List LineStep → Nat
  | [] => 0
  | l :: ls =>
    if prev && !l.sclLow then sclPulses l.sclLow true ls
    else if !prev && l.sclLow && high then sclPulses l.sclLow false ls + 1
    else sclPulses l.sclLow high ls

/-- Data validity over a sequence (R102): from each setting to the next, `sda_low` changes only while `scl_low = 1` is held on
both sides of the change, and SDA is sampled only while SCL is released. -/
def dataValid (prev : LineStep) : List LineStep → Bool
  | [] => true
  | l :: ls => (l.sdaLow == prev.sdaLow || (prev.sclLow && l.sclLow)) && (!l.sample || !l.sclLow) && dataValid l ls

/-- Releasing both lines from a setting makes a stop condition exactly when the block holds SDA low with SCL high (R110): SCL is high
only if neither the block nor the target pulls it (R100). -/
def releaseMakesStop (l : LineStep) (targetPullsScl : Bool) : Bool := sclIn l.sclLow targetPullsScl && l.sdaLow

/-! ### A sequence against the target (R100, R105, R106, R110) -/

/-- A line nobody but the block pulls. -/
def Look.free : Look := ⟨false, false⟩

/-- The look at which the block is done with a setting: at a "wait SCL" the first that finds SCL high, if one comes before the timeout
expires (R106); at any other setting the first look. -/
def LineStep.settle (l : LineStep) (looks : List Look) : Option Look :=
  if l.waitScl then looks.find? (fun k => sclIn l.sclLow k.pullsScl) else some (looks.headD Look.free)

/-- How a sequence went: the settings applied, the levels of SDA sampled, whether the timeout expired before its end, and whether the
target pulled SCL at the last look. -/
structure LineRun where
  applied  : List LineStep
  samples  : List Bool
  expired  : Bool
  pullsScl : Bool
  deriving DecidableEq, Repr, Inhabited

/-- The run with one more setting before it, done with at a look; a sampling setting samples `SDA_IN` there (R105). -/
def LineRun.after (l : LineStep) (k : Look) (r : LineRun) : LineRun :=
  { r with applied := l :: r.applied, samples := if l.sample then sdaIn l.sdaLow k.pullsSda :: r.samples else r.samples }

/-- Apply a sequence of settings (section 2), each under its looks; past the end of the list the target pulls nothing. The timeout
stops the sequence in a wait, with the waiting setting applied (R106). -/
def runLines (pull : Bool) : List LineStep → List (List Look) → LineRun
  | [], _ => ⟨[], [], false, pull⟩
  | l :: ls, looks =>
    let here := looks.headD [Look.free]
    match l.settle here with
    | none => ⟨[l], [], true, (here.getLastD Look.free).pullsScl⟩
    | some k => (runLines k.pullsScl ls looks.tail).after l k

/-- The idle wait before START is over at a look that finds both lines high (R103). -/
def busFree (k : Look) : Bool := sclIn false k.pullsScl && sdaIn false k.pullsSda

/-- The bus symbol read off a whole sequence: its clocks are the releases of SCL. None is START and one is STOP (R112); of nine, the
first eight carry the byte and the last the acknowledge, sampled from the target when the block sent the byte and driven by the block
when it received it (R107, R108, R111). -/
def readSymbol (applied : List LineStep) (samples : List Bool) : Symbol :=
  match applied.filter (·.waitScl) with
  | [] => .s
  | [_] => .p
  | c :: cs =>
    if c.sample then .rx (assembleBits samples) (if (cs.getLastD c).sdaLow then .ack else .nack)
    else .tx (assembleBits (((c :: cs).take 8).map (fun l => !l.sdaLow))) (ackOfLevel (samples.headD true))

/-- The bus symbol read off a run: a timeout ends in the release `TO` (R110). -/
def LineRun.symbol (r : LineRun) : Symbol := if r.expired then .timeoutRelease else readSymbol r.applied r.samples

end Sys2Proof.Machine
end

