-- ==== Sys2Proof/Machine/Ops.lean ====
section
/-! DEFINITION. The named operations over the state: raising a host fault (R157), answering a host read, emitting a bus symbol (R78), the report latch (R126), reset (R171), the turns and the target's answers. -/

namespace Sys2Proof.Machine

/-! ### The host's interface -/

/-- Raise a host fault (R157): the mark is set if there was none, the access has no effect, and it returns nothing. This is the
block's one exception entry; there is no return from it (R162). -/
def State.raise (f : Fault) (s : State) : State := { s with fault := s.fault.or (some f), reply := none }

/-- A read that returns a word and changes nothing of the block (R38). -/
def State.answer (w : Word) (s : State) : State := { s with reply := some w }

/-- A write that returns nothing. -/
def State.silent (s : State) : State := { s with reply := none }

/-- A read that has a meaning only while a valid bit is set (R45 to R47). -/
def State.answerIf (valid : Bool) (f : Fault) (w : Word) (s : State) : State := if valid then s.answer w else s.raise f

/-- A write that has a meaning only while the engine is idle (R40, R43). -/
def State.writeIfIdle (f : Fault) (write : State → State) (s : State) : State := if s.busy then s.raise f else write s.silent

/-! ### The bus -/

/-- Append a symbol to the trace (R78), with its driver settings on record; the drivers end where the symbol leaves them (R103
to R110). -/
def State.emit (y : Symbol) (s : State) : State :=
  { s with trace := s.trace ++ [y], lines := symbolLines y, sclLow := (endSetting y).sclLow, sdaLow := (endSetting y).sdaLow }

/-- The timeout release (R106, R110): the sequence stops where it stands, after its first `k` settings, both lines are released
and `TO` is emitted. -/
def State.release (k : Nat) (ls : List LineStep) (s : State) : State := { s.emit .timeoutRelease with lines := ls.take k ++ [released] }

/-- `latch_report()` (R126). -/
def State.latchReport (s : State) : State := { s with report := reportOf s.rxbuf, reportValid := true }

/-! ### Reset (R170 to R172) -/

/-- Reset: every element of block state gets its reset value; the trace and the fault mark stay; both lines are released at once
and no symbol is emitted. The host agent, its last reply and the model's inputs are not block state. -/
def State.blockReset (s : State) : State :=
  { State.reset with trace := s.trace, fault := s.fault, lines := [released], reply := s.reply, host := s.host, env := s.env }

/-- The operations that end a call of the driver: the last line of `initialize()` (R133) and of `readReport()` (R136). -/
def endsCall : HostOp → Bool
  | .enterReady => true
  | .finishReport => true
  | .request _ => false
  | .load _ _ => false
  | .loadIfOk _ _ => false
  | .poll => false
  | .enterHandshaking => false
  | .runInitialize => false
  | .readReport => false

/-- The program without the rest of the call in progress. -/
def HostAgent.abandonCall (h : HostAgent) : List HostOp :=
  match h.call with
  | none => h.program
  | some _ => (h.program.dropWhile (fun op => !endsCall op)).tail

/-- The host has a device session, or is making one (R132). -/
def HostAgent.hasSession (h : HostAgent) : Bool := decide (h.driver ≠ .uninitialized) || h.call.isSome

/-- The host's program after a reset (R175): the call in progress is abandoned, and a host that had a session runs `initialize()` again
before it goes on. -/
def HostAgent.programAfterReset (h : HostAgent) : List HostOp := if h.hasSession then .runInitialize :: h.abandonCall else h.program

/-- The host's side of a reset (R175): it treats the device session as Uninitialized, and a `readReport()` cut off by the reset returns
NotInitialized (R141; log entry 10). -/
def State.loseSession (s : State) : State :=
  { s with host := { s.host with program := s.host.programAfterReset, driver := .uninitialized, call := none, result := if s.host.call = some .readReport then some .notInitialized else s.host.result } }

/-! ### Turns and answers (R11, R12) -/

/-- Who moves next: the turn lined up, or the free value (log entry 3). -/
def State.turn (s : State) : Turn :=
  match s.env.turns with
  | t :: _ => t
  | [] => Config.turn s.env.tick

/-- What the target does during the next engine step: the answer lined up, or the free value (log entry 4). -/
def State.target (s : State) : TargetLine :=
  match s.env.answers with
  | w :: _ => w
  | [] => Config.target s.env.tick

/-- The turn is taken. -/
def State.passTurn (s : State) : State := { s with env := { s.env with turns := s.env.turns.tail, tick := s.env.tick + 1 } }

/-- The answer is used up. -/
def State.dropAnswer (s : State) : State := { s with env := { s.env with answers := s.env.answers.tail } }

end Sys2Proof.Machine
end

