-- ==== Sys2Proof/Machine/Engine.lean ====
section
/-! DEFINITION. The transaction engine (40_transactions.md sections 2 and 3): accepting a command, one step for each phase, the timeout abort and the completion. -/

namespace Sys2Proof.Machine

/-! ### Issue (R79 to R82) -/

/-- The issue step that WRITE and READ share (R80, R81): flags cleared, the command copied, the engine at START. -/
def State.acceptCommand (rw : Bool) (addr : BitVec 7) (len : BitVec 4) (s : State) : State :=
  { s.clearFlags with curAddr := addr, curRw := rw, curLen := len, curCause := .none, idx := 0, phase := .start }

/-- The issue step of WRITE (R80). -/
def issueWrite (addr : BitVec 7) (len : BitVec 4) (s : State) : State := s.acceptCommand false addr len

/-- The issue step of READ (R81): RXBUF is cleared as well. -/
def issueRead (addr : BitVec 7) (len : BitVec 4) (s : State) : State := { s.acceptCommand true addr len with rxbuf := Buf.zero }

/-- The whole of a rejected command (R82). -/
def issueRejected (s : State) : State := s.rejectFlags

/-- `issue(v)` (R79): decode the word by the opcode map and run the rule of its class. -/
def issue (v : Word) (s : State) : State :=
  if cmdLegal v then
    if cmdRw v then issueRead (cmdAddr v) (cmdLen v) s else issueWrite (cmdAddr v) (cmdLen v) s
  else issueRejected s

/-- A CMD write (R40): the busy check, then CMD takes the word, then the command is issued. -/
def State.commandWrite (v : Word) (start : State → State) (s : State) : State :=
  s.writeIfIdle .cmdWhileBusy (fun t => start { t with cmd := v })

/-! ### Completion (R90) -/

/-- A successful READ of REPORT_LEN bytes latches the report (R90, R126). -/
def State.latches (s : State) : Bool := s.curRw && s.ok && decide (s.curLen.toNat = Config.reportLen)

/-- `complete()` (R90): flags, the report latch and IDLE, all in one step. -/
def State.complete (s : State) : State :=
  let t := if s.latches then s.latchReport else s
  { t.completeFlags with phase := .idle }

/-! ### The steps (R84 to R89) -/

/-- The byte at `idx` is the last one: `idx = cur_len - 1` (R86, R87; log entry 17). -/
def State.lastByte (s : State) : Bool := decide (s.idx.toNat + 1 = s.curLen.toNat)

/-- The acknowledge the block sends for the byte it receives (R87): NACK for the last. -/
def State.readAck (s : State) : Ack := if s.lastByte then .nack else .ack

/-- After a payload byte went through: STOP after the last, the next index otherwise (R86, R87). -/
def State.nextByte (s : State) : State := if s.lastByte then { s with phase := .stop } else { s with idx := s.idx + 1 }

/-- A NACK records its cause and goes to STOP (R85, R86). -/
def State.nackTo (c : Cause) (s : State) : State := { s with curCause := c, phase := .stop }

/-- The START step (R84). -/
def stepStart (s : State) : State := { s.emit .s with phase := .addr }

/-- The ADDR step (R85), the acknowledge drawn. -/
def stepAddr (a : Ack) (s : State) : State :=
  let t := s.emit (.tx (addrByte s.curAddr s.curRw) a)
  match a with
  | .nack => t.nackTo .addrNack
  | .ack => { t with idx := 0, phase := if s.curRw then .rdata else .wdata }

/-- The WDATA step (R86), the acknowledge drawn. -/
def stepWdata (a : Ack) (s : State) : State :=
  let t := s.emit (.tx (s.txbuf.get s.idx) a)
  match a with
  | .nack => t.nackTo .dataNack
  | .ack => t.nextByte

/-- The RDATA step (R87), the byte drawn. -/
def stepRdata (b : Byte) (s : State) : State :=
  let t := s.emit (.rx b s.readAck)
  { t with rxbuf := t.rxbuf.set s.idx b }.nextByte

/-- The STOP step (R88), completion included. -/
def stepStop (s : State) : State := (s.emit .p).complete

/-- The settings of the symbol the present phase is about to carry: what a timeout cuts short (R106, R110). -/
def pendingLines (s : State) : List LineStep :=
  match s.phase with
  | .idle => []
  | .start => startLines
  | .addr => txLines (addrByte s.curAddr s.curRw)
  | .wdata => txLines (s.txbuf.get s.idx)
  | .rdata => rxLines s.readAck
  | .stop => stopLines

/-- `if cur_cause = NONE: cur_cause <- TIMEOUT` (R89, R91). -/
def State.noteTimeout (s : State) : State := { s with curCause := if s.ok then .timeout else s.curCause }

/-- `timeout_abort()` (R89): both lines released wherever the sequence stood, `TO` emitted, completion. -/
def timeoutAbort (k : Nat) (s : State) : State := ((s.release k (pendingLines s)).noteTimeout).complete

/-- The engine's step in a phase without a timeout (R84 to R88); it has none while IDLE (R83). -/
def phaseStep (d : Draw) (s : State) : State :=
  match s.phase with
  | .idle => s
  | .start => stepStart s
  | .addr => stepAddr d.ack s
  | .wdata => stepWdata d.ack s
  | .rdata => stepRdata d.byte s
  | .stop => stepStop s

/-- One engine step under a draw (R83): every step first asks for the timeout. The engine has a step exactly when
`phase ≠ IDLE`. -/
def engineStep (d : Draw) (s : State) : State :=
  if s.busy then if d.timeout then timeoutAbort d.abortAt s else phaseStep d s else s

/-- Several engine steps in a row, one for each draw (R94, R95): a run of the engine with no host access between. -/
def engineRun : List Draw → State → State
  | [], s => s
  | d :: ds, s => engineRun ds (engineStep d s)

end Sys2Proof.Machine
end

