-- ==== Sys2Proof/Machine/Commands.lean ====
section
/-! DEFINITION. The meanings of the CMD rows WRITE, READ and CMD_REJECTED and of the CMD write and read (R40, R41, R79 to R82). -/

namespace Sys2Proof.Machine

/-- WRITE (R80): the CMD write of a WRITE word (log entry 7). -/
def execWrite (addr : BitVec 7) (len : BitVec 4) (s : State) : Host.Outcome State Fault Refusal :=
  .next (s.commandWrite (cmdWord false addr len) (issueWrite addr len))

/-- READ (R81): the CMD write of a READ word (log entry 7). -/
def execRead (addr : BitVec 7) (len : BitVec 4) (s : State) : Host.Outcome State Fault Refusal :=
  .next (s.commandWrite (cmdWord true addr len) (issueRead addr len))

/-- CMD_REJECTED (R82): the CMD write of a word that is not legal (log entry 7). -/
def execCmdRejected (v : Word) (s : State) : Host.Outcome State Fault Refusal := .next (s.commandWrite v issueRejected)

/-- WR CMD (R40). -/
def execWrCmd (v : Word) (s : State) : Host.Outcome State Fault Refusal := .next (s.commandWrite v (issue v))

/-- RD CMD (R41). -/
def execRdCmd (s : State) : Host.Outcome State Fault Refusal := .next (s.answer s.cmd)

end Sys2Proof.Machine
end

