-- ==== Sys2Proof/Machine/Window.lean ====
section
/-! DEFINITION. The meanings of the host accesses to STATUS, TXDATA, RXDATA, REPORT and DEC, and of an ignored write (R36, R42 to R47). -/

namespace Sys2Proof.Machine

/-- RD STATUS (R42). -/
def execRdStatus (s : State) : Host.Outcome State Fault Refusal := .next (s.answer (statusWord s))

/-- WR TXDATA0 (R43). -/
def execWrTxdata0 (v : Word) (s : State) : Host.Outcome State Fault Refusal :=
  .next (s.writeIfIdle .txWhileBusy (fun t => { t with txbuf := t.txbuf.setLow v }))

/-- WR TXDATA1 (R43). -/
def execWrTxdata1 (v : Word) (s : State) : Host.Outcome State Fault Refusal :=
  .next (s.writeIfIdle .txWhileBusy (fun t => { t with txbuf := t.txbuf.setHigh v }))

/-- RD TXDATA0 (R44). -/
def execRdTxdata0 (s : State) : Host.Outcome State Fault Refusal := .next (s.answer s.txbuf.low)

/-- RD TXDATA1 (R44). -/
def execRdTxdata1 (s : State) : Host.Outcome State Fault Refusal := .next (s.answer s.txbuf.high)

/-- RD RXDATA0 (R45). -/
def execRdRxdata0 (s : State) : Host.Outcome State Fault Refusal := .next (s.answerIf s.rxValid .rxNotValid s.rxbuf.low)

/-- RD RXDATA1 (R45). -/
def execRdRxdata1 (s : State) : Host.Outcome State Fault Refusal := .next (s.answerIf s.rxValid .rxNotValid s.rxbuf.high)

/-- RD REPORT0 (R46). -/
def execRdReport0 (s : State) : Host.Outcome State Fault Refusal := .next (s.answerIf s.reportValid .reportNotValid s.report.low)

/-- RD REPORT1 (R46). -/
def execRdReport1 (s : State) : Host.Outcome State Fault Refusal := .next (s.answerIf s.reportValid .reportNotValid s.report.high)

/-- RD DEC_ANALOG (R47). -/
def execRdDecAnalog (s : State) : Host.Outcome State Fault Refusal :=
  .next (s.answerIf s.reportValid .reportNotValid (decAnalogWord (decodeReport s.report)))

/-- RD DEC_ACCEL (R47). -/
def execRdDecAccel (s : State) : Host.Outcome State Fault Refusal :=
  .next (s.answerIf s.reportValid .reportNotValid (decAccelWord (decodeReport s.report)))

/-- RD DEC_BUTTONS (R47). -/
def execRdDecButtons (s : State) : Host.Outcome State Fault Refusal :=
  .next (s.answerIf s.reportValid .reportNotValid (decButtonsWord (decodeReport s.report)))

/-- WR to a read-only register (R36): ignored, whatever the register and the word. -/
def execWrReadOnly (_r : Reg) (_v : Word) (s : State) : Host.Outcome State Fault Refusal := .next s.silent

end Sys2Proof.Machine
end

