-- ==== Sys2Proof/Machine/Dispatch.lean ====
section
/-! DEFINITION. The dispatch: one arm for each instruction. -/

namespace Sys2Proof.Machine

def exec (i : Instr) (s : State) : Host.Outcome State Fault Refusal :=
  match i with
  | .write addr len => Sys2Proof.Machine.execWrite addr len s
  | .read addr len => Sys2Proof.Machine.execRead addr len s
  | .cmdRejected v => Sys2Proof.Machine.execCmdRejected v s
  | .wrCmd v => Sys2Proof.Machine.execWrCmd v s
  | .rdCmd => Sys2Proof.Machine.execRdCmd s
  | .rdStatus => Sys2Proof.Machine.execRdStatus s
  | .wrTxdata0 v => Sys2Proof.Machine.execWrTxdata0 v s
  | .wrTxdata1 v => Sys2Proof.Machine.execWrTxdata1 v s
  | .rdTxdata0 => Sys2Proof.Machine.execRdTxdata0 s
  | .rdTxdata1 => Sys2Proof.Machine.execRdTxdata1 s
  | .rdRxdata0 => Sys2Proof.Machine.execRdRxdata0 s
  | .rdRxdata1 => Sys2Proof.Machine.execRdRxdata1 s
  | .rdReport0 => Sys2Proof.Machine.execRdReport0 s
  | .rdReport1 => Sys2Proof.Machine.execRdReport1 s
  | .rdDecAnalog => Sys2Proof.Machine.execRdDecAnalog s
  | .rdDecAccel => Sys2Proof.Machine.execRdDecAccel s
  | .rdDecButtons => Sys2Proof.Machine.execRdDecButtons s
  | .wrReadOnly r v => Sys2Proof.Machine.execWrReadOnly r v s

end Sys2Proof.Machine
end

