-- ==== Sys2Proof/Machine/Sampling.lean ====
section
/-! DEFINITION. From the lines to the draws (R114): the line sequence of the engine's present step run against the target, and the draws that it samples. -/

namespace Sys2Proof.Machine

/-- The line sequence of the present phase run against the target: a START first waits for an idle bus (R103, R106). -/
def lineRun (w : TargetLine) (s : State) : LineRun :=
  if s.phase = .start ∧ w.idle.any busFree = false then ⟨[], [], true, (w.idle.getLastD Look.free).pullsScl⟩
  else runLines false (pendingLines s) w.settings

/-- The draws are exactly what the line sequence samples (R114): the timeout is whether it expired anywhere in the sequence, the
acknowledge is the bit sampled for a byte sent (R107), the byte is the one assembled for a byte received (R108). -/
def sampledDraw (w : TargetLine) (s : State) : Draw :=
  let r := lineRun w s
  ⟨r.expired, ackOfLevel (r.samples.headD true), assembleBits r.samples, r.applied.length⟩

/-- The draws of the next engine step. -/
def State.draw (s : State) : Draw := sampledDraw s.target s

/-- Whether the release after a timeout makes a stop condition on the wire (R110): from the last setting applied, or from the drivers
as the step found them. -/
def timeoutMakesStop (w : TargetLine) (s : State) : Bool :=
  let r := lineRun w s
  r.expired && releaseMakesStop (r.applied.getLastD ⟨s.sclLow, s.sdaLow, false, false⟩) r.pullsScl

end Sys2Proof.Machine
end

