-- ==== Sys2Proof/Machine/Driver.lean ====
section
/-! DEFINITION. The host agent (43_device_protocol.md, R74, R75): performing a request, the operations of a host program, and the device-protocol driver's `initialize()` and `readReport()`. -/

namespace Sys2Proof.Machine

/-! ### Requests -/

/-- The host fault of an access the decoder rejects (R35, R37). -/
def faultOfDecode : DecodeError → Fault
  | .badAccess => .badAccess
  | .unmapped => .unmapped

/-- Perform one request: decode it and run the instruction, or record the host fault of the check it fails (R157, R158). -/
def perform (r : Request) (s : State) : Host.Outcome State Fault Refusal :=
  match decode r with
  | .ok i => exec i s
  | .error e => .next (s.raise (faultOfDecode e))

/-- Continue on the host's side after an access. -/
def onNext (f : State → State) : Host.Outcome State Fault Refusal → Host.Outcome State Fault Refusal
  | .next s => .next (f s)
  | .fault r => .fault r
  | .refused r => .refused r

/-! ### The host's own state -/

/-- Keep a word in one of the driver's locals. -/
def HostVars.put (vars : HostVars) (x : HostVar) (w : Word) : HostVars :=
  match x with
  | .s1 => { vars with s1 := w }
  | .s2 => { vars with s2 := w }
  | .a => { vars with a := w }
  | .c => { vars with c := w }
  | .b => { vars with b := w }
  | .rx0 => { vars with rx0 := w }
  | .rx1 => { vars with rx1 := w }

/-- `x <- RD REG`: keep what the read returned; a faulting read returned nothing and leaves the local alone. -/
def State.keepReply (x : HostVar) (s : State) : State :=
  match s.reply with
  | some w => { s with host := { s.host with vars := s.host.vars.put x w } }
  | none => s

/-- Set the driver state (R132). -/
def State.setDriver (d : DriverState) (s : State) : State := { s with host := { s.host with driver := d } }

/-- Set the driver call in progress (log entry 10). -/
def State.setCall (c : Option DriverCall) (s : State) : State := { s with host := { s.host with call := c } }

/-- Put operations in front of the host's program. -/
def State.push (ops : List HostOp) (s : State) : State := { s with host := { s.host with program := ops ++ s.host.program } }

/-- Set the result of `readReport()` (R136). -/
def State.setResult (r : ReportResult) (s : State) : State := { s with host := { s.host with result := some r } }

/-- POLL (R74): the read is repeated while it reads BUSY = 1. -/
def State.pollAgain (s : State) : State :=
  match s.reply with
  | some w => if statusBusy w then s.push [.poll] else s
  | none => s

/-! ### Host notation (R75) -/

/-- Byte `k` of a payload; a byte not given is 0x00 (R75). -/
def payloadByte (bytes : List Byte) (k : Nat) : Byte := (bytes[k]?).getD 0

/-- The TXDATA word for payload bytes `k` to `k + 3` (R75). -/
def payloadWord (bytes : List Byte) (k : Nat) : Word :=
  packWord (payloadByte bytes k) (payloadByte bytes (k + 1)) (payloadByte bytes (k + 2)) (payloadByte bytes (k + 3))

/-- `I2C.WRITE addr, [b0, ..., b(n-1)]` (R75), `1 ≤ n ≤ 8`. -/
def i2cWrite (addr : BitVec 7) (bytes : List Byte) : List HostOp :=
  .request (writeOf .txdata0 (payloadWord bytes 0))
    :: (if 4 < bytes.length then [.request (writeOf .txdata1 (payloadWord bytes 4))] else [])
    ++ [.request (writeOf .cmd (cmdWord false addr (BitVec.ofNat 4 bytes.length))), .poll]

/-- `I2C.READ addr, n` (R75), `1 ≤ n ≤ 8`. -/
def i2cRead (addr : BitVec 7) (n : Nat) : List HostOp :=
  [.request (writeOf .cmd (cmdWord true addr (BitVec.ofNat 4 n))), .poll, .load .s1 .status, .loadIfOk .rx0 .rxdata0]
    ++ (if 4 < n then [.loadIfOk .rx1 .rxdata1] else [])

/-! ### The device protocol (R131 to R141) -/

/-- `DEV_ADDR` (R131). -/
def devAddr : BitVec 7 := 0x52

/-- `HS1` (R131). -/
def handshake1 : List Byte := [0xF0, 0x55]

/-- `HS2` (R131). -/
def handshake2 : List Byte := [0xFB, 0x00]

/-- `REARM` (R131). -/
def rearm : List Byte := [0x00]

/-- The body of `initialize()` (R133). No operation looks at a failure: handshake errors are swallowed (R134). -/
def initializeOps : List HostOp :=
  .enterHandshaking :: i2cWrite devAddr handshake1 ++ i2cWrite devAddr handshake2 ++ i2cWrite devAddr rearm ++ [.enterReady]

/-- The body of `readReport()` in Ready (R136): the read, the decoded words if it succeeded, the re-arm unconditionally, the
result. -/
def readReportOps : List HostOp :=
  [.request (writeOf .cmd (cmdWord true devAddr (BitVec.ofNat 4 Config.reportLen))), .poll, .load .s1 .status,
    .loadIfOk .a .decAnalog, .loadIfOk .c .decAccel, .loadIfOk .b .decButtons]
    ++ i2cWrite devAddr rearm ++ [.load .s2 .status, .finishReport]

/-- What `readReport()` returns (R136): the read's failure first, then the re-arm's, then the Reading. -/
def reportResult (vars : HostVars) : ReportResult :=
  if statusErr vars.s1 then .busError (statusCause vars.s1)
  else if statusErr vars.s2 then .busError (statusCause vars.s2)
  else .reading (readingOfWords vars.a vars.c vars.b)

/-- `state <- Ready` (R132, R133): reached from Handshaking; a session lost to a reset meanwhile is not made Ready (R175, log entry 10). -/
def State.finishInitialize (s : State) : State := (if s.host.driver = .handshaking then s.setDriver .ready else s).setCall none

/-- A call of `readReport()` (R136, R141): its body in Ready, `NotInitialized` otherwise, without touching the block. -/
def State.callReadReport (s : State) : State :=
  if s.host.driver = .ready then (s.push readReportOps).setCall (some .readReport) else s.setResult .notInitialized

/-! ### One host move -/

/-- One operation of the host's program, the operation taken off the program already. -/
def hostOp (op : HostOp) (s : State) : Host.Outcome State Fault Refusal :=
  match op with
  | .request r => perform r s
  | .load x r => onNext (State.keepReply x) (perform (readOf r) s)
  | .loadIfOk x r => if statusErr s.host.vars.s1 then .next s else onNext (State.keepReply x) (perform (readOf r) s)
  | .poll => onNext State.pollAgain (perform (readOf .status) s)
  | .enterHandshaking => .next (s.setDriver .handshaking)
  | .enterReady => .next s.finishInitialize
  | .runInitialize => .next ((s.push initializeOps).setCall (some .initializing))
  | .readReport => .next s.callReadReport
  | .finishReport => .next ((s.setResult (reportResult s.host.vars)).setCall none)

/-! ### What is left to do (R149) -/

/-- The operation performs an access, or calls a body that does, if the host takes it now. A dependent read is skipped after a failure
(R75, R136), and `readReport()` touches the block only in Ready (R141). -/
def opAccesses (op : HostOp) (h : HostAgent) : Bool :=
  match op with
  | .request _ => true
  | .load _ _ => true
  | .loadIfOk _ _ => !statusErr h.vars.s1
  | .poll => true
  | .enterHandshaking => false
  | .enterReady => false
  | .runInitialize => true
  | .readReport => decide (h.driver = .ready)
  | .finishReport => false

/-- The state after an operation that makes no access; such an operation answers no other outcome than a next state. -/
def afterOp (op : HostOp) (s : State) : State :=
  match hostOp op s with
  | .next t => t
  | .fault _ => s
  | .refused _ => s

/-- The operations still hold an access that the host has not performed: one of them, reached over operations that make none. -/
def accessLeft : List HostOp → State → Bool
  | [], _ => false
  | op :: ops, s => opAccesses op s.host || accessLeft ops (afterOp op s)

/-! ### The moves of the agents -/

/-- The host takes the next operation of its program (R54); with none left it does nothing. -/
def State.popOp (s : State) : State := { s with host := { s.host with program := s.host.program.tail } }

/-- One host move. -/
def hostStep (s : State) : Host.Outcome State Fault Refusal :=
  match s.host.program with
  | [] => .next s
  | op :: _ => hostOp op s.popOp

/-- One engine move: a step under the draws sampled of the target while a command is in flight (R83, R114); no step and no draw while IDLE. -/
def engineMove (s : State) : State := if s.busy then (engineStep s.draw s).dropAnswer else s

/-- One move of the platform: reset (R170 to R172), and the host losing its device session (R175). -/
def resetMove (s : State) : State := s.blockReset.loseSession

end Sys2Proof.Machine
end

