-- ==== Sys2Proof/Machine/Step.lean ====
section
/-! DEFINITION. The step: one move of the agent whose turn it is (R12, R39, R54), and the placing of one request where the host takes its next one. -/

namespace Sys2Proof.Machine

/-- One move. An agent that has no step lets its turn pass (log entry 8). -/
def step (s : State) : Host.Outcome State Fault Refusal :=
  match s.turn with
  | .host => hostStep s.passTurn
  | .engine => .next (engineMove s).passTurn
  | .reset => .next (resetMove s.passTurn)

/-- The opcode-table row's bits as the host's next request, and the next turn the host's (log entries 5 and 6). -/
def State.withFetchWord (s : State) (nbits w : Nat) : State :=
  { s with host := { s.host with program := .request (requestOfTable nbits w) :: s.host.program }, env := { s.env with turns := .host :: s.env.turns } }

end Sys2Proof.Machine
end

