-- ==== Sys2Proof/Safety.lean ====
section
/-! DEFINITION. What counts as a good end of a run (R149), the invariant of the reachable states (R70, R88, R101), and the traces one command can leave (R95). -/

namespace Sys2Proof

open Sys2Proof.Machine

/-- The end of a run (R149): the host program has performed its last access, the engine is IDLE and no host fault is recorded. Operations
that make no access may still be left (log entry 15). -/
def GoodEnd (s : State) : Prop := accessLeft s.host.program s = false ∧ s.phase = .idle ∧ s.fault = none

/-- The rows of R70 with BUSY = 0: after reset; completed (RX_VALID tells a READ from a WRITE); failed or rejected (no READ fails with
DATA_NACK). -/
def IdleStatus (s : State) : Prop :=
  (s.done = false ∧ s.err = false ∧ s.cause = .none ∧ s.rxValid = false)
    ∨ (s.done = true ∧ s.err = false ∧ s.cause = .none ∧ s.rxValid = s.curRw)
    ∨ (s.done = true ∧ s.err = true ∧ s.cause ≠ .none ∧ s.rxValid = false ∧ (s.cause = .dataNack → s.curRw = false))

/-- The row of R70 with BUSY = 1, and a legal length in flight (R24, R64). -/
def InFlight (s : State) : Prop :=
  s.done = false ∧ s.err = false ∧ s.cause = .none ∧ s.rxValid = false ∧ 1 ≤ s.curLen.toNat ∧ s.curLen.toNat ≤ 8

/-- The invariant of the machine: what holds in each phase of the engine (R70, R85 to R88, R91, R101). -/
def MachineInv (s : State) : Prop :=
  match s.phase with
  | .idle => s.sclLow = false ∧ s.sdaLow = false ∧ IdleStatus s
  | .start => InFlight s ∧ s.sclLow = false ∧ s.sdaLow = false ∧ s.curCause = .none
  | .addr => InFlight s ∧ s.sclLow = true ∧ s.curCause = .none
  | .wdata => InFlight s ∧ s.sclLow = true ∧ s.curCause = .none ∧ s.curRw = false ∧ s.idx.toNat < s.curLen.toNat
  | .rdata => InFlight s ∧ s.sclLow = true ∧ s.curCause = .none ∧ s.curRw = true ∧ s.idx.toNat < s.curLen.toNat
  | .stop => InFlight s ∧ s.sclLow = true ∧ (s.curCause = .none ∨ s.curCause = .addrNack ∨ (s.curCause = .dataNack ∧ s.curRw = false))

/-- Every byte of RXBUF from index `n` on is 0x00. -/
def RxZeroFrom (s : State) (n : Nat) : Prop := ∀ j : BitVec 3, n ≤ j.toNat → s.rxbuf.get j = 0

/-- The unread tail of RXBUF (R45, R81): in a READ every byte not yet received is 0x00, and while RX_VALID = 1 so is every byte
at an index from `cur_len` on. -/
def RxTail (s : State) : Prop :=
  match s.phase with
  | .idle => s.rxValid = true → RxZeroFrom s s.curLen.toNat
  | .start => s.curRw = true → RxZeroFrom s 0
  | .addr => s.curRw = true → RxZeroFrom s 0
  | .wdata => True
  | .rdata => RxZeroFrom s s.idx.toNat
  | .stop => s.curRw = true → s.curCause = .none → RxZeroFrom s s.curLen.toNat

/-! ### The traces of one command (R95) -/

/-- `P` or `TO`: how a command may end after its last byte or a NACK. -/
def EndSymbol (e : Symbol) : Prop := e = .p ∨ e = .timeoutRelease

/-- `TX(TXBUF[0],A) ... TX(TXBUF[j-1],A)`. -/
def sentBytes (buf : Buf) (j : Nat) : List Symbol := (List.range j).map (fun k => .tx (buf.get (BitVec.ofNat 3 k)) .ack)

/-- `RX(d0,A) ... RX(dn,A)`. -/
def receivedBytes (bytes : List Byte) : List Symbol := bytes.map (fun b => .rx b .ack)

/-- The traces of a WRITE with address byte `ab`, payload `buf` and length `len`, and the cause each ends with (R95). -/
def WriteTrace (ab : Byte) (buf : Buf) (len : Nat) (tr : List Symbol) (c : Cause) : Prop :=
  (tr = [.timeoutRelease] ∧ c = .timeout)
    ∨ (tr = [.s, .timeoutRelease] ∧ c = .timeout)
    ∨ (∃ e, EndSymbol e ∧ tr = [.s, .tx ab .nack, e] ∧ c = .addrNack)
    ∨ (∃ j, j < len ∧ tr = [.s, .tx ab .ack] ++ sentBytes buf j ++ [.timeoutRelease] ∧ c = .timeout)
    ∨ (∃ j e, j < len ∧ EndSymbol e ∧ tr = [.s, .tx ab .ack] ++ sentBytes buf j ++ [.tx (buf.get (BitVec.ofNat 3 j)) .nack, e] ∧ c = .dataNack)
    ∨ (tr = [.s, .tx ab .ack] ++ sentBytes buf len ++ [.p] ∧ c = .none)
    ∨ (tr = [.s, .tx ab .ack] ++ sentBytes buf len ++ [.timeoutRelease] ∧ c = .timeout)

/-- The traces of a READ with address byte `ab` and length `len`, the bytes received, and the cause each ends with (R95). -/
def ReadTrace (ab : Byte) (len : Nat) (bytes : List Byte) (tr : List Symbol) (c : Cause) : Prop :=
  (bytes = [] ∧ tr = [.timeoutRelease] ∧ c = .timeout)
    ∨ (bytes = [] ∧ tr = [.s, .timeoutRelease] ∧ c = .timeout)
    ∨ (bytes = [] ∧ ∃ e, EndSymbol e ∧ tr = [.s, .tx ab .nack, e] ∧ c = .addrNack)
    ∨ (bytes.length < len ∧ tr = [.s, .tx ab .ack] ++ receivedBytes bytes ++ [.timeoutRelease] ∧ c = .timeout)
    ∨ (∃ init d, bytes = init ++ [d] ∧ bytes.length = len ∧ tr = [.s, .tx ab .ack] ++ receivedBytes init ++ [.rx d .nack, .p] ∧ c = .none)
    ∨ (∃ init d, bytes = init ++ [d] ∧ bytes.length = len ∧ tr = [.s, .tx ab .ack] ++ receivedBytes init ++ [.rx d .nack, .timeoutRelease] ∧ c = .timeout)

/-- The symbols that carry a byte. -/
def isByteSymbol : Symbol → Bool
  | .s => false
  | .tx _ _ => true
  | .rx _ _ => true
  | .p => false
  | .timeoutRelease => false

/-- The SCL pulses of a symbol (R112); a START begins with SCL released (R103), every other symbol with SCL held low. DESIGN CHOICE (log
entry 23): `TO` counts 0, and so do the pulses that the symbol it cut short had made. -/
def symbolPulses (y : Symbol) : Nat := sclPulses (decide (y ≠ .s)) false (symbolLines y)

/-- The SCL pulses of a trace (R112): those of its whole symbols, not those of one a timeout cut short (log entry 23). -/
def tracePulses (tr : List Symbol) : Nat := (tr.map symbolPulses).sum

/-! ### Line level and byte level (R114) -/

/-- The draws that the engine's steps sample of what the target does, step after step. -/
def sampledDraws : List TargetLine → State → List Draw
  | [], _ => []
  | w :: ws, s => sampledDraw w s :: sampledDraws ws (engineStep (sampledDraw w s) s)

/-- The trace of a line-level run: the symbol read off the settings and samples of each step's line sequence, while a command is in
flight. -/
def lineTrace : List TargetLine → State → List Symbol
  | [], _ => []
  | w :: ws, s => if s.busy then (lineRun w s).symbol :: lineTrace ws (engineStep (sampledDraw w s) s) else []

/-- The block waits, in the sequence of the present phase, with `k` settings applied: before START's first (R103), and at a "wait SCL"
with the waiting setting applied (R106). -/
def AtWait (s : State) (k : Nat) : Prop :=
  (s.phase = .start ∧ k = 0) ∨ ∃ l : LineStep, 0 < k ∧ (pendingLines s)[k - 1]? = some l ∧ l.waitScl = true

/-! ### Agreement of two states -/

/-- Two states that agree on everything but what the last access returned and the fault mark (R38, R156). -/
def SameButReply (s t : State) : Prop := t = { s with reply := t.reply, fault := t.fault }

/-- Two states that agree on everything but RXBUF. -/
def SameButRxbuf (s t : State) : Prop := t = { s with rxbuf := t.rxbuf }

end Sys2Proof
end

