-- ==== Sys2Proof/Certificates/Slice0/Obligations.lean ====
section
/-! DEFINITION. The statements for the provers. Each docstring names the rules of spec/ it comes from. -/

open Sys2Proof Sys2Proof.Machine

/-! ### Encoding -/

/-- Decoding the encoding of a well-formed instruction gives it back, with every operand at every value (R34, R61, R66). -/
def Obligations.DecodeInvertsEncode : Prop :=
  ∀ i : Instr, WellFormed i = true → decode (encode i) = .ok i

/-- Every request that decodes is the encoding of a well-formed instruction: each word and each access has one meaning (R34, R61, R66). -/
def Obligations.EncodeInvertsDecode : Prop :=
  ∀ (r : Request) (i : Instr), decode r = .ok i → WellFormed i = true ∧ encode i = r

/-- The class of every CMD word (R64, R65, R66): rejected when RSV is not 0 or LEN is not 1 to 8, else WRITE or READ by bit 7, with the
fields taken as they stand; and the mask and match of the table agree with it. -/
def Obligations.CmdWordHasOneClass : Prop :=
  ∀ v : Word,
    (v.extractLsb' 12 20 ≠ 0#20 ∨ v.extractLsb' 8 4 = 0#4 ∨ 9 ≤ (v.extractLsb' 8 4).toNat → decode (.command v) = .ok (.cmdRejected v))
      ∧ (v.extractLsb' 12 20 = 0#20 → 1 ≤ (v.extractLsb' 8 4).toNat → (v.extractLsb' 8 4).toNat ≤ 8 → v.getLsbD 7 = false →
          decode (.command v) = .ok (.write (v.extractLsb' 0 7) (v.extractLsb' 8 4)) ∧ v &&& 0xFFFFF080 = 0)
      ∧ (v.extractLsb' 12 20 = 0#20 → 1 ≤ (v.extractLsb' 8 4).toNat → (v.extractLsb' 8 4).toNat ≤ 8 → v.getLsbD 7 = true →
          decode (.command v) = .ok (.read (v.extractLsb' 0 7) (v.extractLsb' 8 4)) ∧ v &&& 0xFFFFF080 = 0x80)

/-- A host access is checked for width and alignment first, then against the register map; each of the eleven offsets of the map is its own
register, in both directions, as R34 lists it, and a write to a read-only one is the ignored write of that register (R34 to R37, R158). -/
def Obligations.AccessChecksComeInOrder : Prop :=
  ∀ a : HostAccess,
    (a.width ≠ 4 ∨ a.offset % 4 ≠ 0 → decode (.access a) = .error .badAccess)
      ∧ (a.width = 4 → a.offset % 4 = 0 → 0x28 < a.offset → decode (.access a) = .error .unmapped)
      ∧ (a.width = 4 → a.offset % 4 = 0 → a.offset ≤ 0x28 → ∃ i, decode (.access a) = .ok i ∧ WellFormed i = true)
      ∧ ∀ (v : Word) (off : Nat) (rd wr : Instr),
          (off, rd, wr) ∈
            [(0x00, .rdCmd, .wrCmd v), (0x04, .rdStatus, .wrReadOnly .status v), (0x08, .rdTxdata0, .wrTxdata0 v),
              (0x0C, .rdTxdata1, .wrTxdata1 v), (0x10, .rdRxdata0, .wrReadOnly .rxdata0 v), (0x14, .rdRxdata1, .wrReadOnly .rxdata1 v),
              (0x18, .rdReport0, .wrReadOnly .report0 v), (0x1C, .rdReport1, .wrReadOnly .report1 v),
              (0x20, .rdDecAnalog, .wrReadOnly .decAnalog v), (0x24, .rdDecAccel, .wrReadOnly .decAccel v),
              (0x28, .rdDecButtons, .wrReadOnly .decButtons v)] →
          decode (.access ⟨off, 4, .read⟩) = .ok rd ∧ decode (.access ⟨off, 4, .write v⟩) = .ok wr

/-- A few words and accesses, written out from the encodings, decode to what they stand for (R34, R61, R66). -/
def Obligations.SampleWordsDecode : Prop :=
  decode (.command 0x00000152) = .ok (.write 0x52 1) ∧ decode (.command 0x000006D2) = .ok (.read 0x52 6)
    ∧ decode (.command 0x00000952) = .ok (.cmdRejected 0x00000952) ∧ decode (.access ⟨0x08, 4, .write 0x55F0⟩) = .ok (.wrTxdata0 0x55F0)
    ∧ decode (.access ⟨0x24, 4, .read⟩) = .ok .rdDecAccel ∧ decode (.access ⟨0x30, 2, .read⟩) = .error .badAccess

/-! ### Host accesses -/

/-- RD CMD returns CMD and changes nothing else, and after a CMD write it returns the word written, a rejected one included, however
far the engine has run since (R41). -/
def Obligations.CmdReadsBackTheWordWritten : Prop :=
  (∀ s : State, exec .rdCmd s = .next { s with reply := some s.cmd })
    ∧ ∀ (v : Word) (s : State) (ds : List Draw), s.phase = .idle →
        ∃ t, exec (.wrCmd v) s = .next t ∧ exec .rdCmd (engineRun ds t) = .next { engineRun ds t with reply := some v }

/-- RD STATUS returns the STATUS word in any state and changes nothing else (R42, R68). -/
def Obligations.StatusReadReturnsTheLayout : Prop :=
  ∀ s : State, ∃ w : Word, exec .rdStatus s = .next { s with reply := some w }
    ∧ w.getLsbD 0 = decide (s.phase ≠ .idle) ∧ w.getLsbD 1 = s.done ∧ w.getLsbD 2 = s.err ∧ w.getLsbD 3 = false
    ∧ w.extractLsb' 4 3 = (match s.cause with | .none => 0 | .addrNack => 1 | .dataNack => 2 | .timeout => 3 | .configRejected => 4)
    ∧ w.getLsbD 7 = false ∧ w.getLsbD 8 = s.rxValid ∧ w.getLsbD 9 = s.reportValid
    ∧ ∀ i, 10 ≤ i → w.getLsbD i = false

/-- WR TXDATA0 and WR TXDATA1 (R43): while IDLE the four bytes of the word go to the four bytes of their half of TXBUF, lowest lane to
lowest index, and nothing else changes; while BUSY each is the host fault TX_WHILE_BUSY and has no effect. -/
def Obligations.TxdataWriteStoresItsBytes : Prop :=
  ∀ (v : Word) (s : State),
    (s.phase = .idle →
      ∃ b0 b1 : Buf, exec (.wrTxdata0 v) s = .next { s with txbuf := b0, reply := none }
        ∧ exec (.wrTxdata1 v) s = .next { s with txbuf := b1, reply := none }
        ∧ (∀ j : BitVec 3, b0.get j = if j.toNat < 4 then v.extractLsb' (8 * j.toNat) 8 else s.txbuf.get j)
        ∧ (∀ j : BitVec 3, b1.get j = if 4 ≤ j.toNat then v.extractLsb' (8 * (j.toNat - 4)) 8 else s.txbuf.get j))
    ∧ (s.phase ≠ .idle →
      exec (.wrTxdata0 v) s = .next { s with fault := s.fault.or (some .txWhileBusy), reply := none }
        ∧ exec (.wrTxdata1 v) s = .next { s with fault := s.fault.or (some .txWhileBusy), reply := none })

/-- RD TXDATA0 and RD TXDATA1 return the bytes of TXBUF, lowest index in the lowest lane, in any state, and change nothing else; the
engine never writes TXBUF (R44). -/
def Obligations.TxdataReadPacksItsBytes : Prop :=
  ∀ s : State, (∀ d : Draw, (engineStep d s).txbuf = s.txbuf) ∧ ∃ w0 w1 : Word, exec .rdTxdata0 s = .next { s with reply := some w0 } ∧ exec .rdTxdata1 s = .next { s with reply := some w1 }
    ∧ ∀ n, n < 4 → w0.extractLsb' (8 * n) 8 = s.txbuf.get (BitVec.ofNat 3 n) ∧ w1.extractLsb' (8 * n) 8 = s.txbuf.get (BitVec.ofNat 3 (4 + n))

/-- RD RXDATA0 and RD RXDATA1 (R45, R48): with RX_VALID = 1 they return the bytes of RXBUF; with RX_VALID = 0 each is the host fault
RX_NOT_VALID. Nothing else changes. -/
def Obligations.RxdataReadNeedsRxValid : Prop :=
  ∀ s : State,
    (s.rxValid = true →
      ∃ w0 w1 : Word, exec .rdRxdata0 s = .next { s with reply := some w0 } ∧ exec .rdRxdata1 s = .next { s with reply := some w1 }
        ∧ ∀ n, n < 4 → w0.extractLsb' (8 * n) 8 = s.rxbuf.get (BitVec.ofNat 3 n) ∧ w1.extractLsb' (8 * n) 8 = s.rxbuf.get (BitVec.ofNat 3 (4 + n)))
    ∧ (s.rxValid = false →
      exec .rdRxdata0 s = .next { s with fault := s.fault.or (some .rxNotValid), reply := none }
        ∧ exec .rdRxdata1 s = .next { s with fault := s.fault.or (some .rxNotValid), reply := none })

/-- RD REPORT0 and RD REPORT1 (R46, R71): with REPORT_VALID = 1 they return the six bytes of REPORT, and zeros above them, in any phase;
with REPORT_VALID = 0 each is the host fault REPORT_NOT_VALID. Nothing else changes. -/
def Obligations.ReportReadNeedsReportValid : Prop :=
  ∀ s : State,
    (s.reportValid = true →
      exec .rdReport0 s = .next { s with reply := some (s.report.b3 ++ s.report.b2 ++ s.report.b1 ++ s.report.b0) }
        ∧ ∃ w : Word, exec .rdReport1 s = .next { s with reply := some w }
          ∧ w.extractLsb' 0 8 = s.report.b4 ∧ w.extractLsb' 8 8 = s.report.b5 ∧ w.extractLsb' 16 16 = 0)
    ∧ (s.reportValid = false →
      exec .rdReport0 s = .next { s with fault := s.fault.or (some .reportNotValid), reply := none }
        ∧ exec .rdReport1 s = .next { s with fault := s.fault.or (some .reportNotValid), reply := none })

/-- RD DEC_ANALOG, DEC_ACCEL and DEC_BUTTONS (R47, R72, R128): with REPORT_VALID = 1 they return the fields decoded from REPORT as it
stands, packed as the layout says, in any phase; with REPORT_VALID = 0 each is the host fault REPORT_NOT_VALID. Nothing else changes. -/
def Obligations.DecReadReturnsTheDecodedFields : Prop :=
  ∀ s : State,
    (s.reportValid = true →
      ∃ a c b : Word, exec .rdDecAnalog s = .next { s with reply := some a } ∧ exec .rdDecAccel s = .next { s with reply := some c }
        ∧ exec .rdDecButtons s = .next { s with reply := some b }
        ∧ a.extractLsb' 0 8 = s.report.b0 ∧ a.extractLsb' 8 8 = s.report.b1 ∧ a.extractLsb' 16 16 = 0
        ∧ c.extractLsb' 0 10 = s.report.b2 ++ s.report.b5.extractLsb' 2 2 ∧ c.extractLsb' 10 10 = s.report.b3 ++ s.report.b5.extractLsb' 4 2
        ∧ c.extractLsb' 20 10 = s.report.b4 ++ s.report.b5.extractLsb' 6 2 ∧ c.extractLsb' 30 2 = 0
        ∧ b.getLsbD 0 = !(s.report.b5.getLsbD 1) ∧ b.getLsbD 1 = !(s.report.b5.getLsbD 0) ∧ b.extractLsb' 2 30 = 0)
    ∧ (s.reportValid = false →
      exec .rdDecAnalog s = .next { s with fault := s.fault.or (some .reportNotValid), reply := none }
        ∧ exec .rdDecAccel s = .next { s with fault := s.fault.or (some .reportNotValid), reply := none }
        ∧ exec .rdDecButtons s = .next { s with fault := s.fault.or (some .reportNotValid), reply := none })

/-- No register read changes any state of the block (the fault mark is the model's bookkeeping, the reply the host's), and a second
read returns what the first returned (R38). -/
def Obligations.ReadsHaveNoSideEffect : Prop :=
  ∀ (r : Reg) (s : State), ∃ t u, exec (readInstr r) s = .next t ∧ SameButReply s t ∧ exec (readInstr r) t = .next u ∧ u.reply = t.reply

/-- A write to a read-only register has no effect, in any phase, and is no fault (R36). -/
def Obligations.WriteToReadOnlyIsIgnored : Prop :=
  ∀ (r : Reg) (v : Word) (s : State), r ∈ [.status, .rxdata0, .rxdata1, .report0, .report1, .decAnalog, .decAccel, .decButtons] →
    decode (.access ⟨r.offset, 4, .write v⟩) = .ok (.wrReadOnly r v) ∧ exec (.wrReadOnly r v) s = .next { s with reply := none }

/-- An access of another width than 32 bits, or at an offset that is no multiple of 4, is the host fault BAD_ACCESS; an aligned one at
an offset the map does not list is UNMAPPED; neither has an effect on the block (20_memory.md section 3). That the fault mark is recorded in
a next state and the host goes on with its program is the model's reading (log entry 1). -/
def Obligations.BadAndUnmappedAccessesFault : Prop :=
  ∀ (a : HostAccess) (rest : List HostOp) (s : State), s.turn = .host → s.host.program = .request (.access a) :: rest →
    (a.width ≠ 4 ∨ a.offset % 4 ≠ 0 → step s = .next { s.passTurn.popOp with fault := s.fault.or (some .badAccess), reply := none })
      ∧ (a.width = 4 → a.offset % 4 = 0 →
          a.offset ∉ [0x00, 0x04, 0x08, 0x0C, 0x10, 0x14, 0x18, 0x1C, 0x20, 0x24, 0x28] →
          step s = .next { s.passTurn.popOp with fault := s.fault.or (some .unmapped), reply := none })

/-- Which host fault each request raises when none is recorded yet, and that a request that raises one changes nothing but the
mark (R156). -/
def Obligations.HostFaultsAreExactlyTheTable : Prop :=
  ∀ (r : Request) (s : State), s.fault = none → ∃ t, perform r s = .next t
    ∧ (t.fault ≠ none → t = { s with fault := t.fault, reply := none })
    ∧ t.fault = (match decode r with
        | .error .badAccess => some .badAccess
        | .error .unmapped => some .unmapped
        | .ok i => match i with
          | .write _ _ | .read _ _ | .cmdRejected _ | .wrCmd _ => if s.phase ≠ .idle then some .cmdWhileBusy else none
          | .wrTxdata0 _ | .wrTxdata1 _ => if s.phase ≠ .idle then some .txWhileBusy else none
          | .rdRxdata0 | .rdRxdata1 => if s.rxValid = false then some .rxNotValid else none
          | .rdReport0 | .rdReport1 | .rdDecAnalog | .rdDecAccel | .rdDecButtons => if s.reportValid = false then some .reportNotValid else none
          | .rdCmd | .rdStatus | .rdTxdata0 | .rdTxdata1 | .wrReadOnly _ _ => none)

/-- The fault mark is none at first; once set it is never cleared or changed, by no move of any agent, not even by reset (R29). -/
def Obligations.FaultMarkIsSticky : Prop :=
  State.reset.fault = none ∧ ∀ (s t : State) (f : Fault), step s = .next t → s.fault = some f → t.fault = some f

/-- A host access never touches the bus, the report, the host agent or the model's inputs; and while a command is in flight it changes
nothing of the block at all (R79, R93). -/
def Obligations.NoAccessAltersACommandInFlight : Prop :=
  ∀ (i : Instr) (s t : State), exec i s = .next t →
    (s.phase ≠ .idle → SameButReply s t)
      ∧ t.trace = s.trace ∧ t.lines = s.lines ∧ t.sclLow = s.sclLow ∧ t.sdaLow = s.sdaLow ∧ t.report = s.report
      ∧ t.reportValid = s.reportValid ∧ t.host = s.host ∧ t.env = s.env

/-- Bytes of a failed or unfinished READ cannot be learned: two states that differ only in RXBUF, with RX_VALID = 0, answer every
instruction alike and still differ only in RXBUF (R45, R87). -/
def Obligations.UnreadableBytesStayUnreadable : Prop :=
  ∀ (i : Instr) (s t : State), SameButRxbuf s t → s.rxValid = false →
    ∃ s' t', exec i s = .next s' ∧ exec i t = .next t' ∧ SameButRxbuf s' t' ∧ s'.rxValid = false

/-! ### Commands -/

/-- A CMD write, of any word, while a command is in flight is the host fault CMD_WHILE_BUSY with no effect: the busy check comes before
the rejection of the word (R40, R158). -/
def Obligations.CmdWriteWhileBusyFaults : Prop :=
  ∀ (addr : BitVec 7) (len : BitVec 4) (v : Word) (s : State), s.phase ≠ .idle →
    exec (.write addr len) s = .next { s with fault := s.fault.or (some .cmdWhileBusy), reply := none }
      ∧ exec (.read addr len) s = .next { s with fault := s.fault.or (some .cmdWhileBusy), reply := none }
      ∧ exec (.cmdRejected v) s = .next { s with fault := s.fault.or (some .cmdWhileBusy), reply := none }
      ∧ exec (.wrCmd v) s = .next { s with fault := s.fault.or (some .cmdWhileBusy), reply := none }

/-- The issue of a WRITE while IDLE (R80): CMD takes the word, DONE, ERR, CAUSE and RX_VALID are cleared, the command is copied, the
engine is at START, and nothing else changes. -/
def Obligations.WriteIssueStartsTheEngine : Prop :=
  ∀ (addr : BitVec 7) (len : BitVec 4) (s : State), s.phase = .idle → 1 ≤ len.toNat → len.toNat ≤ 8 →
    exec (.write addr len) s = .next { s with cmd := 0#20 ++ len ++ 0#1 ++ addr, reply := none, done := false, err := false, cause := .none, rxValid := false, curAddr := addr, curRw := false, curLen := len, curCause := .none, idx := 0, phase := .start }

/-- The issue of a READ while IDLE (R81): as for a WRITE with the direction 1, and every byte of RXBUF is cleared. -/
def Obligations.ReadIssueClearsRxbuf : Prop :=
  ∀ (addr : BitVec 7) (len : BitVec 4) (s : State), s.phase = .idle → 1 ≤ len.toNat → len.toNat ≤ 8 →
    ∃ b : Buf, (∀ j : BitVec 3, b.get j = 0)
      ∧ exec (.read addr len) s = .next { s with cmd := 0#20 ++ len ++ 1#1 ++ addr, reply := none, done := false, err := false, cause := .none, rxValid := false, curAddr := addr, curRw := true, curLen := len, curCause := .none, idx := 0, phase := .start, rxbuf := b }

/-- A word that is not legal (R82, R154): written while IDLE it is rejected at once with CAUSE 4, no bus symbol, CMD keeps the word, and
nothing else changes; written while BUSY it is the host fault CMD_WHILE_BUSY. -/
def Obligations.IllegalWordIsRejectedAtOnce : Prop :=
  ∀ (v : Word) (s : State), (v.extractLsb' 12 20 ≠ 0#20 ∨ v.extractLsb' 8 4 = 0#4 ∨ 9 ≤ (v.extractLsb' 8 4).toNat) →
    (s.phase = .idle →
      ∃ t, exec (.cmdRejected v) s = .next t
        ∧ t = { s with cmd := v, reply := none, done := true, err := true, cause := .configRejected, rxValid := false }
        ∧ exec (.wrCmd v) s = .next t ∧ (statusWord t).extractLsb' 0 7 = 0x46)
    ∧ (s.phase ≠ .idle →
      exec (.cmdRejected v) s = .next { s with fault := s.fault.or (some .cmdWhileBusy), reply := none }
        ∧ exec (.wrCmd v) s = .next { s with fault := s.fault.or (some .cmdWhileBusy), reply := none })

/-- WR CMD (R40, R79): while BUSY the host fault CMD_WHILE_BUSY; while IDLE CMD takes the word and the word is issued by its class. -/
def Obligations.CmdWriteIssuesByClass : Prop :=
  ∀ (v : Word) (s : State),
    (s.phase ≠ .idle → exec (.wrCmd v) s = .next { s with fault := s.fault.or (some .cmdWhileBusy), reply := none })
    ∧ (s.phase = .idle →
      exec (.wrCmd v) s = .next
        (if v.extractLsb' 12 20 = 0#20 ∧ 1 ≤ (v.extractLsb' 8 4).toNat ∧ (v.extractLsb' 8 4).toNat ≤ 8 then
          { s with cmd := v, reply := none, done := false, err := false, cause := .none, rxValid := false, curAddr := v.extractLsb' 0 7, curRw := v.getLsbD 7, curLen := v.extractLsb' 8 4, curCause := .none, idx := 0, phase := .start, rxbuf := if v.getLsbD 7 then Buf.zero else s.rxbuf }
        else { s with cmd := v, reply := none, done := true, err := true, cause := .configRejected, rxValid := false }))

/-- The WRITE, READ and CMD_REJECTED rows are the CMD write of their words: in every state the access does what the row it decodes to
does (R79; log entry 7: the model's reading of the table's two formats). -/
def Obligations.CmdWriteAgreesWithItsRow : Prop :=
  ∀ (v : Word) (i : Instr) (s : State), decode (.command v) = .ok i → exec (.wrCmd v) s = exec i s

/-! ### The engine -/

/-- The START step (R84): on a timeout the abort, else `S` is emitted, SDA is pulled low and then SCL (the settings of 41_bus_signalling.md
section 2), and the engine is at ADDR; nothing else changes. -/
def Obligations.StartStepEmitsStart : Prop :=
  ∀ (d : Draw) (s : State), s.phase = .start →
    (d.timeout = true → engineStep d s = timeoutAbort d.abortAt s)
    ∧ (d.timeout = false → engineStep d s = { s with trace := s.trace ++ [.s], phase := .addr, sclLow := true, sdaLow := true, lines := [⟨false, true, false, false⟩, ⟨true, true, false, false⟩] })

/-- The ADDR step (R85): on a timeout the abort, else the address byte goes out with the direction in bit 0; a NACK records ADDR_NACK and goes to STOP, an ACK
goes to the payload of the command's direction at index 0; nothing else changes. -/
def Obligations.AddrStepFollowsTheAcknowledge : Prop :=
  ∀ (d : Draw) (s : State), s.phase = .addr →
    (d.timeout = true → engineStep d s = timeoutAbort d.abortAt s)
    ∧ (d.timeout = false → engineStep d s =
      let ab : Byte := s.curAddr ++ BitVec.ofBool s.curRw
      let t := { s with trace := s.trace ++ [Symbol.tx ab d.ack], sclLow := true, sdaLow := false, lines := txLines ab }
      if d.ack = .nack then { t with curCause := .addrNack, phase := .stop }
      else if s.curRw then { t with idx := 0, phase := .rdata } else { t with idx := 0, phase := .wdata })

/-- The WDATA step (40_transactions.md section 3): on a timeout the abort, else payload byte `idx` of TXBUF goes out; a NACK records
DATA_NACK and goes to STOP without sending the rest; an ACK goes to STOP after the last byte and to the next index otherwise; nothing else
changes. The last byte is told by `idx + 1 = cur_len` (log entry 17). In a state the invariant admits `idx` does not overflow, which the
spec derives: 'so `idx` never overflows its 3 bits'. -/
def Obligations.WdataStepSendsThePayloadByte : Prop :=
  ∀ (d : Draw) (s : State), s.phase = .wdata →
    (d.timeout = true → engineStep d s = timeoutAbort d.abortAt s)
    ∧ (MachineInv s → s.idx.toNat + 1 ≠ s.curLen.toNat → (s.idx + 1).toNat = s.idx.toNat + 1 ∧ (s.idx + 1).toNat ≤ s.curLen.toNat - 1)
    ∧ (d.timeout = false → engineStep d s =
      let b := s.txbuf.get s.idx
      let t := { s with trace := s.trace ++ [Symbol.tx b d.ack], sclLow := true, sdaLow := false, lines := txLines b }
      if d.ack = .nack then { t with curCause := .dataNack, phase := .stop }
      else if s.idx.toNat + 1 = s.curLen.toNat then { t with phase := .stop } else { t with idx := s.idx + 1 })

/-- The RDATA step (40_transactions.md section 3): on a timeout the abort, else the drawn byte is stored at `idx` of RXBUF and at no other
index, and the block answers NACK to the last byte and ACK to any other; after the last the engine is at STOP; nothing else changes. The
last byte is told by `idx + 1 = cur_len` (log entry 17). -/
def Obligations.RdataStepStoresTheByte : Prop :=
  ∀ (d : Draw) (s : State), s.phase = .rdata →
    (d.timeout = true → engineStep d s = timeoutAbort d.abortAt s)
    ∧ (d.timeout = false → ∃ b : Buf, (∀ j : BitVec 3, b.get j = if j = s.idx then d.byte else s.rxbuf.get j)
      ∧ engineStep d s =
        if s.idx.toNat + 1 = s.curLen.toNat then
          { s with rxbuf := b, trace := s.trace ++ [Symbol.rx d.byte .nack], sclLow := true, sdaLow := false, lines := rxLines .nack, phase := .stop }
        else
          { s with rxbuf := b, trace := s.trace ++ [Symbol.rx d.byte .ack], sclLow := true, sdaLow := true, lines := rxLines .ack, idx := s.idx + 1 })

/-- The STOP step with its completion (R88, R90, R126): on a timeout the abort, else `P` is emitted, both lines are released, and in the same step DONE, ERR, CAUSE,
RX_VALID and, for a successful READ of six bytes, REPORT and REPORT_VALID take their values, and the engine is IDLE; nothing else
changes. -/
def Obligations.StopStepCompletes : Prop :=
  ∀ (d : Draw) (s : State), s.phase = .stop →
    (d.timeout = true → engineStep d s = timeoutAbort d.abortAt s)
    ∧ (d.timeout = false → engineStep d s =
      let ok : Bool := decide (s.curCause = .none)
      let latch : Bool := s.curRw && ok && decide (s.curLen = 6)
      { s with trace := s.trace ++ [.p], sclLow := false, sdaLow := false, lines := stopLines, done := true, err := !ok, cause := s.curCause, rxValid := s.curRw && ok, report := if latch then ⟨s.rxbuf.get 0, s.rxbuf.get 1, s.rxbuf.get 2, s.rxbuf.get 3, s.rxbuf.get 4, s.rxbuf.get 5⟩ else s.report, reportValid := if latch then true else s.reportValid, phase := .idle })

/-- The timeout (40_transactions.md section 3, 41_bus_signalling.md section 2): in every phase but IDLE a drawn timeout releases both
lines, emits `TO` in place of the phase's symbol, keeps an earlier cause or records TIMEOUT, and completes with ERR = 1; the report is
untouched. Which settings were applied before the release is open: they are a part, from its start, of the sequence the phase was about to
carry, and the model keeps them on record (log entry 9). -/
def Obligations.TimeoutAbortsInEveryPhase : Prop :=
  ∀ (d : Draw) (s : State), s.phase ≠ .idle → d.timeout = true →
    ∃ (pre : List LineStep) (c : Cause), pre <+: pendingLines s ∧ c = (if s.curCause = .none then .timeout else s.curCause)
      ∧ engineStep d s = { s with trace := s.trace ++ [.timeoutRelease], sclLow := false, sdaLow := false, lines := pre ++ [⟨false, false, false, false⟩], curCause := c, done := true, err := true, cause := c, rxValid := false, phase := .idle }

/-- The first cause wins (R91): in a state the invariant admits, a recorded cause is not changed by the engine's next step, whatever is
drawn, and it is the CAUSE the command completes with. -/
def Obligations.FirstCauseWins : Prop :=
  ∀ (d : Draw) (s : State), MachineInv s → s.phase ≠ .idle → s.curCause ≠ .none →
    (engineStep d s).curCause = s.curCause ∧ (engineStep d s).phase = .idle ∧ (engineStep d s).cause = s.curCause
      ∧ (engineStep d s).err = true

/-- An accepted command completes within LEN + 3 engine steps whatever is drawn, having emitted at least one and at most LEN + 3
symbols. The spec derives it: 40_transactions.md section 4, 'An accepted command completes in at most LEN + 3 engine steps'. -/
def Obligations.CommandCompletesInBoundedSteps : Prop :=
  ∀ (s : State) (ds : List Draw), MachineInv s → s.phase = .start → ds.length = s.curLen.toNat + 3 →
    (engineRun ds s).phase = .idle
      ∧ ∃ tr : List Symbol, (engineRun ds s).trace = s.trace ++ tr ∧ 1 ≤ tr.length ∧ tr.length ≤ s.curLen.toNat + 3

/-- Every trace a WRITE can leave, whatever is drawn, is one of the traces listed in 40_transactions.md section 4 ('Every trace of one
command', which the spec derives) for TXBUF as it stood at the CMD write, and the
completion reports the cause that trace stands for; TXBUF, REPORT and REPORT_VALID are untouched and RX_VALID is 0. -/
def Obligations.EveryWriteTraceIsListed : Prop :=
  ∀ (addr : BitVec 7) (len : BitVec 4) (s : State) (ds : List Draw), s.phase = .idle → 1 ≤ len.toNat → len.toNat ≤ 8 →
    ds.length = len.toNat + 3 →
    ∃ u t tr, exec (.write addr len) s = .next u ∧ t = engineRun ds u ∧ t.trace = s.trace ++ tr
      ∧ WriteTrace (addr ++ 0#1) s.txbuf len.toNat tr t.cause ∧ t.phase = .idle ∧ t.done = true ∧ t.err = decide (t.cause ≠ .none)
      ∧ t.rxValid = false ∧ t.txbuf = s.txbuf ∧ t.report = s.report ∧ t.reportValid = s.reportValid

/-- Every trace a READ can leave, whatever is drawn, is one of the traces listed in 40_transactions.md section 4 ('Every trace of one
command', which the spec derives), and the completion reports the cause that trace stands
for; RX_VALID is 1 exactly on success, RXBUF then holds the bytes of the trace in order and zeros after them, and REPORT is latched
exactly on a success of six bytes. -/
def Obligations.EveryReadTraceIsListed : Prop :=
  ∀ (addr : BitVec 7) (len : BitVec 4) (s : State) (ds : List Draw), s.phase = .idle → 1 ≤ len.toNat → len.toNat ≤ 8 →
    ds.length = len.toNat + 3 →
    ∃ u t tr bytes, exec (.read addr len) s = .next u ∧ t = engineRun ds u ∧ t.trace = s.trace ++ tr
      ∧ ReadTrace (addr ++ 1#1) len.toNat bytes tr t.cause ∧ t.phase = .idle ∧ t.done = true ∧ t.err = decide (t.cause ≠ .none)
      ∧ t.rxValid = decide (t.cause = .none) ∧ (∀ j : BitVec 3, t.rxbuf.get j = (bytes[j.toNat]?).getD 0)
      ∧ t.report = (if t.cause = .none ∧ len = 6 then reportOf t.rxbuf else s.report)
      ∧ t.reportValid = (if t.cause = .none ∧ len = 6 then true else s.reportValid)

/-- A WRITE whose every byte is acknowledged and that no timeout strikes (R80): the trace is S, the address byte, the LEN payload bytes
in index order, P, and it completes without error. -/
def Obligations.AcknowledgedWriteSucceeds : Prop :=
  ∀ (addr : BitVec 7) (len : BitVec 4) (s : State) (ds : List Draw), s.phase = .idle → 1 ≤ len.toNat → len.toNat ≤ 8 →
    ds.length = len.toNat + 3 → (∀ d ∈ ds, d.timeout = false ∧ d.ack = .ack) →
    ∃ u t, exec (.write addr len) s = .next u ∧ t = engineRun ds u
      ∧ t.trace = s.trace ++ [.s, .tx (addr ++ 0#1) .ack] ++ sentBytes s.txbuf len.toNat ++ [.p]
      ∧ t.phase = .idle ∧ t.done = true ∧ t.err = false ∧ t.cause = .none ∧ t.rxValid = false

/-- A READ whose address is acknowledged and that no timeout strikes (R81): the trace is S, the address byte, the LEN bytes drawn, the
last one NACKed by the block, P; it completes without error, RX_VALID is 1 and RXBUF holds the bytes drawn. -/
def Obligations.AcknowledgedReadSucceeds : Prop :=
  ∀ (addr : BitVec 7) (len : BitVec 4) (s : State) (d0 d1 d3 : Draw) (init : List Draw) (d2 : Draw), s.phase = .idle → len.toNat ≤ 8 →
    len.toNat = init.length + 1 → (∀ d ∈ d0 :: d1 :: init ++ [d2, d3], d.timeout = false) → d1.ack = .ack →
    ∃ u t, exec (.read addr len) s = .next u ∧ t = engineRun (d0 :: d1 :: init ++ [d2, d3]) u
      ∧ t.trace = s.trace ++ [.s, .tx (addr ++ 1#1) .ack] ++ receivedBytes (init.map Draw.byte) ++ [.rx d2.byte .nack, .p]
      ∧ t.phase = .idle ∧ t.done = true ∧ t.err = false ∧ t.cause = .none ∧ t.rxValid = true
      ∧ ∀ j : BitVec 3, t.rxbuf.get j = ((init.map Draw.byte ++ [d2.byte])[j.toNat]?).getD 0

/-! ### The report -/

/-- The fields of the decoder (R117 to R123). -/
def Obligations.DecoderUnpacksEachField : Prop :=
  ∀ r : Report,
    (decodeReport r).analogX = r.b0 ∧ (decodeReport r).analogY = r.b1
      ∧ (decodeReport r).accelX = r.b2 ++ r.b5.extractLsb' 2 2 ∧ (decodeReport r).accelX.toNat = r.b2.toNat * 4 + r.b5.toNat / 4 % 4
      ∧ (decodeReport r).accelY = r.b3 ++ r.b5.extractLsb' 4 2 ∧ (decodeReport r).accelY.toNat = r.b3.toNat * 4 + r.b5.toNat / 16 % 4
      ∧ (decodeReport r).accelZ = r.b4 ++ r.b5.extractLsb' 6 2 ∧ (decodeReport r).accelZ.toNat = r.b4.toNat * 4 + r.b5.toNat / 64
      ∧ (decodeReport r).buttonC = !(r.b5.getLsbD 1) ∧ (decodeReport r).buttonZ = !(r.b5.getLsbD 0)

/-- The decoder is a bijection within its ranges: distinct reports give distinct Readings, and every Reading comes from a report.
The spec derives it: 42_report_decoder.md section 1, 'distinct reports give distinct Readings'. -/
def Obligations.DecoderIsABijection : Prop :=
  (∀ r q : Report, decodeReport r = decodeReport q → r = q) ∧ (∀ rd : Reading, ∃ r, decodeReport r = rd)
    ∧ ∀ r : Report, (decodeReport r).analogX.toNat ≤ 255 ∧ (decodeReport r).analogY.toNat ≤ 255 ∧ (decodeReport r).accelX.toNat ≤ 1023
        ∧ (decodeReport r).accelY.toNat ≤ 1023 ∧ (decodeReport r).accelZ.toNat ≤ 1023

/-- REPORT and REPORT_VALID are written by nothing but the latch, in the completion of a successful six-byte READ, and by reset.
The spec derives it: 42_report_decoder.md section 2, 'REPORT is written only by rule R126'. -/
def Obligations.ReportIsWrittenOnlyByTheLatch : Prop :=
  ∀ s t : State, step s = .next t → (t.report ≠ s.report ∨ t.reportValid ≠ s.reportValid) →
    s.turn = .reset
      ∨ (s.turn = .engine ∧ s.phase = .stop ∧ s.draw.timeout = false ∧ s.curRw = true ∧ s.curCause = .none ∧ s.curLen = 6
          ∧ t.phase = .idle ∧ t.reportValid = true ∧ t.report = reportOf s.rxbuf)

/-! ### The lines -/

/-- The SCL pulses, as the spec derives them in 41_bus_signalling.md section 3 ('START and STOP make no SCL pulse'): none for START and
STOP, nine for every TX and RX symbol, `9k` for a command with `k` such symbols that completes with P, and `9(LEN + 1)` for a successful
command of either direction. The `9k` is stated of every list of symbols that ends in P. Where such a list holds more than one command, or a
`TO` before its P, the count is the model's choice and not the spec's: the sum over whole symbols, in which `TO` and the symbol it cut short
count 0 (log entry 23). -/
def Obligations.NinePulsesForEachByte : Prop :=
  symbolPulses .s = 0 ∧ symbolPulses .p = 0 ∧ (∀ b a, symbolPulses (.tx b a) = 9 ∧ symbolPulses (.rx b a) = 9)
    ∧ (∀ tr : List Symbol, tracePulses (tr ++ [.p]) = 9 * (tr.filter isByteSymbol).length)
    ∧ (∀ (ab : Byte) (buf : Buf) (len : Nat), tracePulses ([.s, .tx ab .ack] ++ sentBytes buf len ++ [.p]) = 9 * (len + 1))
    ∧ (∀ (ab : Byte) (init : List Byte) (d : Byte),
        tracePulses ([.s, .tx ab .ack] ++ receivedBytes init ++ [.rx d .nack, .p]) = 9 * ((init ++ [d]).length + 1))

/-- Data validity (41_bus_signalling.md sections 1 and 2, general knowledge by the spec's own mark; log entry 16): while it carries a byte
the block changes `sda_low` only with SCL held low and samples SDA only with SCL released; START, whose settings are (0, 1) and (1, 1)
from released lines, changes it once with SCL high, from released to low, and STOP, whose settings are (1, 1), (0, 1) with its wait and
(0, 0), once, from low to released. Releasing both lines after a timeout makes a stop condition exactly when the block
holds SDA low while nobody, the target included, pulls SCL. -/
def Obligations.DataChangesOnlyWhileClockIsLow : Prop :=
  (∀ (prev : LineStep) (b : Byte) (a : Ack), prev.sclLow = true → dataValid prev (txLines b) = true ∧ dataValid prev (rxLines a) = true)
    ∧ released = ⟨false, false, false, false⟩ ∧ startLines = [⟨false, true, false, false⟩, ⟨true, true, false, false⟩]
    ∧ stopLines = [⟨true, true, false, false⟩, ⟨false, true, true, false⟩, ⟨false, false, false, false⟩]
    ∧ dataValid released startLines = false ∧ dataValid ⟨false, true, false, false⟩ (startLines.drop 1) = true
    ∧ (∀ prev : LineStep, prev.sclLow = true → dataValid prev (stopLines.take 2) = true ∧ dataValid prev stopLines = false)
    ∧ (∀ (l : LineStep) (pull : Bool), releaseMakesStop l pull = true ↔ l.sdaLow = true ∧ l.sclLow = false ∧ pull = false)

/-- The order of the bits on the wire (41_bus_signalling.md sections 2 and 3, general knowledge by the spec's own mark; log entry 16): the k-th SCL release of a TX symbol carries bit 7 - k, and its ninth samples the
acknowledge; an RX symbol samples eight bits, the first received being bit 7, and its ninth release carries the block's acknowledge. -/
def Obligations.BytesGoMostSignificantBitFirst : Prop :=
  (∀ (b : Byte) (k : Nat), k < 8 → (txLines b)[3 * k + 1]? = some ⟨false, !(b.getLsbD (7 - k)), true, false⟩)
    ∧ (∀ b : Byte, (txLines b)[25]? = some ⟨false, false, true, true⟩ ∧ (txLines b).length = 27 ∧ assembleBits (wireBits b) = b)
    ∧ (∀ (a : Ack) (k : Nat), k < 8 → (rxLines a)[3 * k + 1]? = some ⟨false, false, true, true⟩)
    ∧ (∀ a : Ack, (rxLines a)[25]? = some ⟨false, decide (a = .ack), true, false⟩ ∧ (rxLines a).length = 27)
    ∧ (∀ d7 d6 d5 d4 d3 d2 d1 d0 : Bool, wireBits (assembleBits [d7, d6, d5, d4, d3, d2, d1, d0]) = [d7, d6, d5, d4, d3, d2, d1, d0])
    ∧ ∀ pulls : Bool, ackOfLevel (sdaIn false pulls) = if pulls then .ack else .nack

/-! ### The whole machine -/

/-- A request the host presents runs as the instruction it decodes to, which is well-formed; what the step adds is that the turn and
the operation are used up and the tick counts (R12, R54). -/
def Obligations.StepRunsTheDecodedInstruction : Prop :=
  ∀ (s : State) (r : Request) (i : Instr) (rest : List HostOp), s.turn = .host → s.host.program = .request r :: rest → decode r = .ok i →
    WellFormed i = true
      ∧ step s = exec i { s with host := { s.host with program := rest }, env := { s.env with turns := s.env.turns.tail, tick := s.env.tick + 1 } }

/-- What `withFetchWord` places is what the very next step runs, in every state: the row's instruction in that state, with only the tick
counted (the model's own loading of a program, log entries 5 and 6). -/
def Obligations.FetchWordIsRunNext : Prop :=
  ∀ (s : State) (nbits w : Nat) (i : Instr), decodeTableWord nbits w = some i →
    step (s.withFetchWord nbits w) = exec i { s with env := { s.env with tick := s.env.tick + 1 } }

/-- The engine has a step exactly when a command is in flight (R83): then its turn is one engine step under the draws sampled of the next answer,
which is used up; while IDLE its turn changes nothing but the model's inputs (log entries 4 and 8). -/
def Obligations.EngineTurnIsOneEngineStep : Prop :=
  ∀ s : State, s.turn = .engine →
    (s.phase ≠ .idle → ∃ t, step s = .next t ∧ t = { engineStep s.draw s with env := t.env } ∧ t.env.answers = s.env.answers.tail
        ∧ t.env.turns = s.env.turns.tail)
    ∧ (s.phase = .idle → ∃ t, step s = .next t ∧ t = { s with env := t.env } ∧ t.env.answers = s.env.answers)

/-- No state is one the machine stops in: a step always answers a next state. That no word traps is R66. That a host fault is a next state
with its mark set is the model's reading (log entry 1), and that the turn of an agent without a step, an idle engine or a host whose program
is done, passes in a next state is the model's choice (log entry 8). -/
def Obligations.TheMachineNeverStops : Prop :=
  ∀ s : State, ∃ t, step s = .next t

/-- Every move of every agent keeps the invariant (R70, R86, R91, R101). -/
def Obligations.StepKeepsTheInvariant : Prop :=
  ∀ s t : State, MachineInv s → step s = .next t → MachineInv t

/-- Every move of every agent keeps the unread tail of RXBUF zero, so the bytes of a successful READ at indices from `cur_len` on read
as 0x00 (R45, R81). -/
def Obligations.StepKeepsTheUnreadTailZero : Prop :=
  ∀ s t : State, MachineInv s → RxTail s → step s = .next t → RxTail t

/-- The state after reset meets both invariants (R170, R171). -/
def Obligations.ResetMeetsTheInvariants : Prop :=
  MachineInv State.reset ∧ RxTail State.reset

/-- In a state the invariant admits the STATUS word is one of the rows of 30_encoding.md section 4, and a READ has not failed with CAUSE 2
(the spec derives that: 'A READ never produces CAUSE 2'). -/
def Obligations.StatusIsAListedRow : Prop :=
  ∀ s : State, MachineInv s → ∃ w : Word, exec .rdStatus s = .next { s with reply := some w }
    ∧ (w.getLsbD 0, w.getLsbD 1, w.getLsbD 2, (w.extractLsb' 4 3).toNat, w.getLsbD 8) ∈
        [(false, false, false, 0, false), (true, false, false, 0, false), (false, true, false, 0, false), (false, true, false, 0, true),
          (false, true, true, 1, false), (false, true, true, 2, false), (false, true, true, 3, false), (false, true, true, 4, false)]
    ∧ ((w.extractLsb' 4 3).toNat = 2 → s.curRw = false)

/-- While the engine is IDLE both lines are released, in every state the invariant admits, and an accepted command starts from released
lines (41_bus_signalling.md section 1, general knowledge by the spec's own mark; log entry 16). -/
def Obligations.IdleLinesAreReleased : Prop :=
  ∀ (s : State) (v : Word), MachineInv s → s.phase = .idle →
    s.sclLow = false ∧ s.sdaLow = false
      ∧ ∃ t, exec (.wrCmd v) s = .next t ∧ t.sclLow = false ∧ t.sdaLow = false ∧ MachineInv t

/-- The trace is empty at first and only ever appended to; an engine step with a command in flight appends exactly one symbol and no
other move appends anything (R28, R78). -/
def Obligations.OnlyTheEngineExtendsTheTrace : Prop :=
  State.reset.trace = [] ∧ ∀ s t : State, step s = .next t →
    (s.turn = .engine ∧ s.phase ≠ .idle → ∃ y, t.trace = s.trace ++ [y]) ∧ (¬ (s.turn = .engine ∧ s.phase ≠ .idle) → t.trace = s.trace)

/-- TXBUF is changed by nothing but the host's TXDATA writes while IDLE, and by reset: no command consumes it (R17, R43, R44). -/
def Obligations.OnlyTxdataWritesChangeTxbuf : Prop :=
  ∀ s t : State, step s = .next t → t.txbuf ≠ s.txbuf →
    s.turn = .reset
      ∨ (s.turn = .host ∧ s.phase = .idle ∧ ∃ r v rest, s.host.program = .request r :: rest
          ∧ (decode r = .ok (.wrTxdata0 v) ∨ decode r = .ok (.wrTxdata1 v)))

/-- Reset, at any moment (R171, R172): every element of block state takes its reset value, a command in flight is abandoned without a
symbol or a completion, STATUS reads all zero, both lines are released, and the trace and the fault mark stay. -/
def Obligations.ResetRestoresTheBlock : Prop :=
  ∀ s : State, s.turn = .reset → ∃ t, step s = .next t
    ∧ t.cmd = 0 ∧ t.done = false ∧ t.err = false ∧ t.cause = .none ∧ t.rxValid = false ∧ t.reportValid = false
    ∧ (∀ j : BitVec 3, t.txbuf.get j = 0 ∧ t.rxbuf.get j = 0) ∧ t.report = ⟨0, 0, 0, 0, 0, 0⟩ ∧ t.phase = .idle ∧ t.idx = 0 ∧ t.curAddr = 0
    ∧ t.curRw = false ∧ t.curLen = 0 ∧ t.curCause = .none ∧ t.sclLow = false ∧ t.sdaLow = false
    ∧ t.trace = s.trace ∧ t.fault = s.fault ∧ statusWord t = 0

/-! ### The host's driver -/

/-- The driver's states (43_device_protocol.md section 2, 70_reset_and_hazards.md section 2): a move changes the driver state only to
Handshaking, from Handshaking to Ready, or by a reset to Uninitialized. A reset leaves it Uninitialized; a host that had a session runs
`initialize()` before the rest of its program, a call in progress is taken out of the program up to its last operation, and a `readReport()`
so cut off returns NotInitialized (that the host does this at once is the model's choice, log entry 10). -/
def Obligations.DriverStatesMoveInOrder : Prop :=
  ∀ s t : State, step s = .next t →
    (t.host.driver ≠ s.host.driver →
      (s.turn = .host ∧ t.host.driver = .handshaking) ∨ (s.turn = .host ∧ s.host.driver = .handshaking ∧ t.host.driver = .ready)
        ∨ (s.turn = .reset ∧ t.host.driver = .uninitialized))
    ∧ (s.turn = .reset →
      t.host.driver = .uninitialized ∧ t.host.call = none
        ∧ (s.host.driver = .uninitialized → s.host.call = none → t.host.program = s.host.program)
        ∧ (s.host.driver ≠ .uninitialized → s.host.call = none → t.host.program = .runInitialize :: s.host.program)
        ∧ ∀ (c : DriverCall) (body rest : List HostOp) (last : HostOp), s.host.call = some c → s.host.program = body ++ last :: rest →
            (∀ op ∈ body, op ≠ .enterReady ∧ op ≠ .finishReport) → last = .enterReady ∨ last = .finishReport →
            t.host.program = .runInitialize :: rest ∧ (c = .readReport → t.host.result = some .notInitialized))

/-- `readReport()` before the driver is Ready (R141): the result is NotInitialized, and neither the block nor the rest of the host's
program is touched. -/
def Obligations.ReadReportNeedsASession : Prop :=
  ∀ (s : State) (rest : List HostOp), s.turn = .host → s.host.program = .readReport :: rest → s.host.driver ≠ .ready →
    ∃ t, step s = .next t ∧ t = { s with host := t.host, env := t.env } ∧ t.host.result = some .notInitialized ∧ t.host.program = rest
      ∧ t.host.driver = s.host.driver

/-- The end of `readReport()` (R136, R137): the read's failure is returned first, then the re-arm's, else the Reading whose fields are
those of the decoded words; the driver state stays and the block is not touched. -/
def Obligations.ReadFailureIsReportedFirst : Prop :=
  ∀ (s : State) (rest : List HostOp), s.turn = .host → s.host.program = .finishReport :: rest →
    ∃ t, step s = .next t ∧ t = { s with host := t.host, env := t.env } ∧ t.host.driver = s.host.driver
      ∧ (s.host.vars.s1.getLsbD 2 = true → t.host.result = some (.busError (s.host.vars.s1.extractLsb' 4 3)))
      ∧ (s.host.vars.s1.getLsbD 2 = false → s.host.vars.s2.getLsbD 2 = true → t.host.result = some (.busError (s.host.vars.s2.extractLsb' 4 3)))
      ∧ (s.host.vars.s1.getLsbD 2 = false → s.host.vars.s2.getLsbD 2 = false →
          ∀ r : Report, s.host.vars.a = decAnalogWord (decodeReport r) → s.host.vars.c = decAccelWord (decodeReport r) →
            s.host.vars.b = decButtonsWord (decodeReport r) → t.host.result = some (.reading (decodeReport r)))

/-- What the driver's calls put in front of the host's program (43_device_protocol.md section 2; 30_encoding.md section 7; log entry 15: one
operation for each turn): `readReport()` in Ready the six-byte read, the wait, the outcome, the three decoded words unless it failed, the
re-arm in any case, its outcome and the result; `initialize()` the two handshake pairs and the re-arm, each waited for; POLL one STATUS read
and, while BUSY reads 1, itself again; and a read that depends on the first outcome is skipped if its ERR bit is set and performed
otherwise. Nothing else changes. -/
def Obligations.DriverCallsIssueTheirOperations : Prop :=
  ∀ (s : State) (op : HostOp) (rest : List HostOp), s.turn = .host → s.host.program = op :: rest →
    (op = .readReport → s.host.driver = .ready → ∃ t, step s = .next t ∧ t = { s with host := t.host, env := t.env }
      ∧ t.host = { s.host with call := some .readReport, program :=
          [.request (.access ⟨0x00, 4, .write 0x000006D2⟩), .poll, .load .s1 .status, .loadIfOk .a .decAnalog, .loadIfOk .c .decAccel,
            .loadIfOk .b .decButtons, .request (.access ⟨0x08, 4, .write 0x00000000⟩), .request (.access ⟨0x00, 4, .write 0x00000152⟩), .poll,
            .load .s2 .status, .finishReport] ++ rest })
    ∧ (op = .runInitialize → ∃ t, step s = .next t ∧ t = { s with host := t.host, env := t.env }
      ∧ t.host = { s.host with call := some .initializing, program :=
          [.enterHandshaking, .request (.access ⟨0x08, 4, .write 0x000055F0⟩), .request (.access ⟨0x00, 4, .write 0x00000252⟩), .poll,
            .request (.access ⟨0x08, 4, .write 0x000000FB⟩), .request (.access ⟨0x00, 4, .write 0x00000252⟩), .poll,
            .request (.access ⟨0x08, 4, .write 0x00000000⟩), .request (.access ⟨0x00, 4, .write 0x00000152⟩), .poll, .enterReady] ++ rest })
    ∧ (op = .poll → ∃ t, step s = .next t ∧ t = { s with reply := some (statusWord s), host := t.host, env := t.env }
      ∧ t.host = { s.host with program := if s.phase = .idle then rest else .poll :: rest })
    ∧ (∀ x r, op = .loadIfOk x r →
      (s.host.vars.s1.getLsbD 2 = true → ∃ t, step s = .next t ∧ t = { s with host := { s.host with program := rest }, env := t.env })
      ∧ (s.host.vars.s1.getLsbD 2 = false → ∃ t, step s = .next t ∧ SameButReply { s with host := t.host, env := t.env } t
          ∧ exec (readInstr r) s = .next { t with host := s.host, env := s.env }
          ∧ t.host = { s.host with program := rest, vars := match t.reply with
            | some w => s.host.vars.put x w
            | none => s.host.vars }))

/-- The line level and the byte level agree (41_bus_signalling.md section 3, 'produce the same trace for the same target behaviour', which the
spec derives): whatever the target does on the lines, the byte-level run under the draws that the line sequences sample of it leaves the
trace of the symbols read off those sequences. The draws so sampled are under no law: for every draw there is a behaviour of the target
under which the engine's step is the step under that draw; only the record of the settings applied is bound, to what a timeout in a wait
leaves: a sampled timeout strikes in a wait, and at every wait one can (log entries 4, 9 and 22). -/
def Obligations.LineRunLeavesTheSameTrace : Prop :=
  (∀ (ws : List TargetLine) (s : State), (engineRun (sampledDraws ws s) s).trace = s.trace ++ lineTrace ws s)
    ∧ (∀ (w : TargetLine) (s : State), (sampledDraw w s).timeout = true → AtWait s (sampledDraw w s).abortAt)
    ∧ ∀ (d : Draw) (s : State), ∃ w : TargetLine,
        engineStep (sampledDraw w s) s = { engineStep d s with lines := (engineStep (sampledDraw w s) s).lines }
          ∧ (d.timeout = false ∨ AtWait s d.abortAt → (engineStep (sampledDraw w s) s).lines = (engineStep d s).lines)
end

