-- ==== Sys2Proof/Laws/Operands.lean ====
section
/-! SUPPORT. Laws of the operand forms: buffers, DATA words, the decoder's fields, the opcode map's fields. -/

namespace Sys2Proof.Machine

/-- Case split on a 3-bit index. -/
theorem index_cases (i : BitVec 3) : i = 0 ∨ i = 1 ∨ i = 2 ∨ i = 3 ∨ i = 4 ∨ i = 5 ∨ i = 6 ∨ i = 7 := by
  revert i
  decide

theorem get_set_same (b : Buf) (i : BitVec 3) (x : Byte) : (b.set i x).get i = x := by
  rcases index_cases i with h | h | h | h | h | h | h | h <;> subst h <;> rfl

theorem get_set_other (b : Buf) (i j : BitVec 3) (x : Byte) (h : j ≠ i) : (b.set i x).get j = b.get j := by
  rcases index_cases i with hi | hi | hi | hi | hi | hi | hi | hi <;> subst hi <;>
    rcases index_cases j with hj | hj | hj | hj | hj | hj | hj | hj <;> subst hj <;> first | rfl | exact absurd rfl h

@[simp] theorem get_zero (i : BitVec 3) : Buf.zero.get i = 0 := by
  rcases index_cases i with h | h | h | h | h | h | h | h <;> subst h <;> rfl

/-- Two buffers with the same eight bytes are equal. -/
theorem buf_ext_get (b c : Buf) (h : ∀ i, b.get i = c.get i) : b = c := by
  obtain ⟨b0, b1, b2, b3, b4, b5, b6, b7⟩ := b
  obtain ⟨c0, c1, c2, c3, c4, c5, c6, c7⟩ := c
  have h0 : b0 = c0 := h 0
  have h1 : b1 = c1 := h 1
  have h2 : b2 = c2 := h 2
  have h3 : b3 = c3 := h 3
  have h4 : b4 = c4 := h 4
  have h5 : b5 = c5 := h 5
  have h6 : b6 = c6 := h 6
  have h7 : b7 = c7 := h 7
  subst h0 h1 h2 h3 h4 h5 h6 h7
  rfl

/-- Each lane of a packed word is its byte (R48). -/
theorem lane_packWord (x0 x1 x2 x3 : Byte) :
    lane (packWord x0 x1 x2 x3) 0 = x0 ∧ lane (packWord x0 x1 x2 x3) 1 = x1 ∧ lane (packWord x0 x1 x2 x3) 2 = x2
      ∧ lane (packWord x0 x1 x2 x3) 3 = x3 := by
  refine ⟨?_, ?_, ?_, ?_⟩ <;>
    (apply BitVec.eq_of_getLsbD_eq; intro i hi
     simp only [lane, packWord, BitVec.getLsbD_extractLsb', BitVec.getLsbD_append]
     interval_cases i <;> simp)

/-- A word is the packing of its lanes (R48). -/
theorem packWord_lane (v : Word) : packWord (lane v 0) (lane v 1) (lane v 2) (lane v 3) = v := by
  apply BitVec.eq_of_getLsbD_eq
  intro i hi
  simp only [lane, packWord, BitVec.getLsbD_extractLsb', BitVec.getLsbD_append]
  interval_cases i <;> simp

/-- Reading back the word written to TXDATA0 (R43, R44). -/
theorem low_setLow (b : Buf) (v : Word) : (b.setLow v).low = v := packWord_lane v

/-- Reading back the word written to TXDATA1 (R43, R44). -/
theorem high_setHigh (b : Buf) (v : Word) : (b.setHigh v).high = v := packWord_lane v

/-- An axis is the high byte above its two low bits (R119 to R121). -/
theorem accelField_eq_append (hi b5 : Byte) (k : Nat) : accelField hi b5 k = hi ++ b5.extractLsb' k 2 := by
  apply BitVec.eq_of_getLsbD_eq
  intro i hi'
  simp only [accelField, BitVec.getLsbD_or, BitVec.getLsbD_shiftLeft, BitVec.getLsbD_and, BitVec.getLsbD_ushiftRight,
    BitVec.getLsbD_setWidth, BitVec.getLsbD_append, BitVec.getLsbD_extractLsb']
  by_cases h : i < 2
  · have h3 : (3#10).getLsbD i = true := by interval_cases i <;> rfl
    simp only [h, h3, hi', decide_true, Bool.not_true, Bool.and_false, Bool.false_and, Bool.false_or, Bool.and_true, Bool.true_and, if_true]
    by_cases hk : k + i < 10
    · simp [hk]
    · have : b5.getLsbD (k + i) = false := BitVec.getLsbD_of_ge _ _ (by omega)
      simp [this]
  · have h3 : (3#10).getLsbD i = false := by interval_cases i <;> rfl
    have : i - 2 < 10 := by omega
    simp only [h, h3, hi', this, decide_true, decide_false, Bool.and_false, Bool.or_false, Bool.not_false, Bool.true_and, if_false]

end Sys2Proof.Machine

namespace Sys2Proof

/-- The fields of an encoded CMD word (R61). -/
theorem cmdWord_fields (rw : Bool) (addr : BitVec 7) (len : BitVec 4) :
    cmdAddr (cmdWord rw addr len) = addr ∧ cmdRw (cmdWord rw addr len) = rw ∧ cmdLen (cmdWord rw addr len) = len
      ∧ cmdRsv (cmdWord rw addr len) = 0 := by
  refine ⟨?_, ?_, ?_, ?_⟩
  · apply BitVec.eq_of_getLsbD_eq; intro i hi
    simp only [cmdAddr, cmdWord, BitVec.getLsbD_extractLsb', BitVec.getLsbD_append]
    interval_cases i <;> simp
  · simp only [cmdRw, cmdWord, BitVec.getLsbD_append]
    simp
  · apply BitVec.eq_of_getLsbD_eq; intro i hi
    simp only [cmdLen, cmdWord, BitVec.getLsbD_extractLsb', BitVec.getLsbD_append]
    interval_cases i <;> simp
  · apply BitVec.eq_of_getLsbD_eq; intro i hi
    simp only [cmdRsv, cmdWord, BitVec.getLsbD_extractLsb', BitVec.getLsbD_append]
    interval_cases i <;> simp

/-- A CMD word is its four fields (R61). -/
theorem cmd_eq_fields (v : Word) : v = cmdRsv v ++ cmdLen v ++ BitVec.ofBool (cmdRw v) ++ cmdAddr v := by
  apply BitVec.eq_of_getLsbD_eq
  intro i hi
  simp only [cmdAddr, cmdRw, cmdLen, cmdRsv, BitVec.getLsbD_extractLsb', BitVec.getLsbD_append]
  interval_cases i <;> simp

end Sys2Proof
end

