-- ==== Sys2Proof/Laws/Decode.lean ====
section
/-! SUPPORT. Laws of the register map, and one decoded word for every constructor, written out from the spec's encodings. -/

namespace Sys2Proof

@[simp] theorem regAt_offset (r : Reg) : regAt r.offset = some r := by cases r <;> rfl

theorem offset_aligned (r : Reg) : r.offset % 4 = 0 := by cases r <;> rfl

/-- The only mapped offset of a register is its own (R34). -/
theorem regAt_eq_some (off : Nat) (r : Reg) (h : regAt off = some r) : off = r.offset := by
  unfold regAt at h
  repeat' (split at h <;> first | (cases h; assumption) | skip)
  cases h

/-- An access to a mapped register, of the right width, decodes to its instruction. -/
theorem decode_mapped (r : Reg) (d : AccessDir) : decode (.access ⟨r.offset, 4, d⟩) = .ok (regInstr r d) := by
  have h : (HostAccess.mk r.offset 4 d).aligned = true := by simp [HostAccess.aligned, offset_aligned]
  simp [decode, decodeAccess, h]

/-- `legal(v)` in words (R66). -/
theorem cmdLegal_iff (v : Word) :
    cmdLegal v = true ↔ v.extractLsb' 12 20 = 0#20 ∧ 1 ≤ (v.extractLsb' 8 4).toNat ∧ (v.extractLsb' 8 4).toNat ≤ 8 := by
  simp only [cmdLegal, Bool.and_eq_true, decide_eq_true_eq]
  rfl

/-- A legal length in words (R64). -/
theorem lenOk_iff (len : BitVec 4) : lenOk len = true ↔ 1 ≤ len.toNat ∧ len.toNat ≤ 8 := by
  simp only [lenOk, Bool.and_eq_true, decide_eq_true_eq]

/-- A well-formed rejected word is one that is not legal (R66). -/
theorem wellFormed_cmdRejected_iff (v : Word) : WellFormed (.cmdRejected v) = true ↔ cmdLegal v = false := by
  rw [← Bool.not_eq_true, cmdLegal_iff]
  simp only [WellFormed, Bool.or_eq_true, decide_eq_true_eq]
  have h16 := (v.extractLsb' 8 4).isLt
  have hz : v.extractLsb' 8 4 = 0#4 ↔ (v.extractLsb' 8 4).toNat = 0 := by
    refine ⟨fun h => by rw [h]; rfl, fun h => BitVec.eq_of_toNat_eq (by rw [h]; rfl)⟩
  rw [hz]
  by_cases h : v.extractLsb' 12 20 = 0#20
  · simp only [h, ne_eq, not_true_eq_false, false_or, true_and]
    omega
  · simp only [h, ne_eq, not_false_eq_true, true_or, false_and]

/-! One word of each row (30_encoding.md R61, 20_memory.md R34; the CMD words are those of 95_test_vectors.md section 2). -/

theorem decodes_write : decode (.command 0x00000252) = .ok (.write 0x52 2) := by rfl
theorem decodes_read : decode (.command 0x000008FF) = .ok (.read 0x7F 8) := by rfl
theorem decodes_cmdRejected : decode (.command 0x80000652) = .ok (.cmdRejected 0x80000652) := by rfl
theorem decodes_wrCmd : decode (.access ⟨0x00, 4, .write 0x152⟩) = .ok (.wrCmd 0x152) := by rfl
theorem decodes_rdCmd : decode (.access ⟨0x00, 4, .read⟩) = .ok .rdCmd := by rfl
theorem decodes_rdStatus : decode (.access ⟨0x04, 4, .read⟩) = .ok .rdStatus := by rfl
theorem decodes_wrTxdata0 : decode (.access ⟨0x08, 4, .write 0x55F0⟩) = .ok (.wrTxdata0 0x55F0) := by rfl
theorem decodes_wrTxdata1 : decode (.access ⟨0x0C, 4, .write 5⟩) = .ok (.wrTxdata1 5) := by rfl
theorem decodes_rdTxdata0 : decode (.access ⟨0x08, 4, .read⟩) = .ok .rdTxdata0 := by rfl
theorem decodes_rdTxdata1 : decode (.access ⟨0x0C, 4, .read⟩) = .ok .rdTxdata1 := by rfl
theorem decodes_rdRxdata0 : decode (.access ⟨0x10, 4, .read⟩) = .ok .rdRxdata0 := by rfl
theorem decodes_rdRxdata1 : decode (.access ⟨0x14, 4, .read⟩) = .ok .rdRxdata1 := by rfl
theorem decodes_rdReport0 : decode (.access ⟨0x18, 4, .read⟩) = .ok .rdReport0 := by rfl
theorem decodes_rdReport1 : decode (.access ⟨0x1C, 4, .read⟩) = .ok .rdReport1 := by rfl
theorem decodes_rdDecAnalog : decode (.access ⟨0x20, 4, .read⟩) = .ok .rdDecAnalog := by rfl
theorem decodes_rdDecAccel : decode (.access ⟨0x24, 4, .read⟩) = .ok .rdDecAccel := by rfl
theorem decodes_rdDecButtons : decode (.access ⟨0x28, 4, .read⟩) = .ok .rdDecButtons := by rfl
theorem decodes_wrReadOnly : decode (.access ⟨0x24, 4, .write 0⟩) = .ok (.wrReadOnly .decAccel 0) := by rfl

end Sys2Proof
end

