-- ==== Sys2Proof/Laws/State.lean ====
section
/-! SUPPORT. One lemma for each field under each named update of the state, true by rfl, for simp. -/

namespace Sys2Proof.Machine

/-! ### raise -/

@[simp] theorem raise_cmd (f : Fault) (s : State) : (s.raise f).cmd = s.cmd := rfl
@[simp] theorem raise_done (f : Fault) (s : State) : (s.raise f).done = s.done := rfl
@[simp] theorem raise_err (f : Fault) (s : State) : (s.raise f).err = s.err := rfl
@[simp] theorem raise_cause (f : Fault) (s : State) : (s.raise f).cause = s.cause := rfl
@[simp] theorem raise_rxValid (f : Fault) (s : State) : (s.raise f).rxValid = s.rxValid := rfl
@[simp] theorem raise_reportValid (f : Fault) (s : State) : (s.raise f).reportValid = s.reportValid := rfl
@[simp] theorem raise_txbuf (f : Fault) (s : State) : (s.raise f).txbuf = s.txbuf := rfl
@[simp] theorem raise_rxbuf (f : Fault) (s : State) : (s.raise f).rxbuf = s.rxbuf := rfl
@[simp] theorem raise_report (f : Fault) (s : State) : (s.raise f).report = s.report := rfl
@[simp] theorem raise_phase (f : Fault) (s : State) : (s.raise f).phase = s.phase := rfl
@[simp] theorem raise_idx (f : Fault) (s : State) : (s.raise f).idx = s.idx := rfl
@[simp] theorem raise_curAddr (f : Fault) (s : State) : (s.raise f).curAddr = s.curAddr := rfl
@[simp] theorem raise_curRw (f : Fault) (s : State) : (s.raise f).curRw = s.curRw := rfl
@[simp] theorem raise_curLen (f : Fault) (s : State) : (s.raise f).curLen = s.curLen := rfl
@[simp] theorem raise_curCause (f : Fault) (s : State) : (s.raise f).curCause = s.curCause := rfl
@[simp] theorem raise_sclLow (f : Fault) (s : State) : (s.raise f).sclLow = s.sclLow := rfl
@[simp] theorem raise_sdaLow (f : Fault) (s : State) : (s.raise f).sdaLow = s.sdaLow := rfl
@[simp] theorem raise_trace (f : Fault) (s : State) : (s.raise f).trace = s.trace := rfl
@[simp] theorem raise_fault (f : Fault) (s : State) : (s.raise f).fault = s.fault.or (some f) := rfl
@[simp] theorem raise_lines (f : Fault) (s : State) : (s.raise f).lines = s.lines := rfl
@[simp] theorem raise_reply (f : Fault) (s : State) : (s.raise f).reply = none := rfl
@[simp] theorem raise_host (f : Fault) (s : State) : (s.raise f).host = s.host := rfl
@[simp] theorem raise_env (f : Fault) (s : State) : (s.raise f).env = s.env := rfl

/-! ### answer -/

@[simp] theorem answer_cmd (w : Word) (s : State) : (s.answer w).cmd = s.cmd := rfl
@[simp] theorem answer_done (w : Word) (s : State) : (s.answer w).done = s.done := rfl
@[simp] theorem answer_err (w : Word) (s : State) : (s.answer w).err = s.err := rfl
@[simp] theorem answer_cause (w : Word) (s : State) : (s.answer w).cause = s.cause := rfl
@[simp] theorem answer_rxValid (w : Word) (s : State) : (s.answer w).rxValid = s.rxValid := rfl
@[simp] theorem answer_reportValid (w : Word) (s : State) : (s.answer w).reportValid = s.reportValid := rfl
@[simp] theorem answer_txbuf (w : Word) (s : State) : (s.answer w).txbuf = s.txbuf := rfl
@[simp] theorem answer_rxbuf (w : Word) (s : State) : (s.answer w).rxbuf = s.rxbuf := rfl
@[simp] theorem answer_report (w : Word) (s : State) : (s.answer w).report = s.report := rfl
@[simp] theorem answer_phase (w : Word) (s : State) : (s.answer w).phase = s.phase := rfl
@[simp] theorem answer_idx (w : Word) (s : State) : (s.answer w).idx = s.idx := rfl
@[simp] theorem answer_curAddr (w : Word) (s : State) : (s.answer w).curAddr = s.curAddr := rfl
@[simp] theorem answer_curRw (w : Word) (s : State) : (s.answer w).curRw = s.curRw := rfl
@[simp] theorem answer_curLen (w : Word) (s : State) : (s.answer w).curLen = s.curLen := rfl
@[simp] theorem answer_curCause (w : Word) (s : State) : (s.answer w).curCause = s.curCause := rfl
@[simp] theorem answer_sclLow (w : Word) (s : State) : (s.answer w).sclLow = s.sclLow := rfl
@[simp] theorem answer_sdaLow (w : Word) (s : State) : (s.answer w).sdaLow = s.sdaLow := rfl
@[simp] theorem answer_trace (w : Word) (s : State) : (s.answer w).trace = s.trace := rfl
@[simp] theorem answer_fault (w : Word) (s : State) : (s.answer w).fault = s.fault := rfl
@[simp] theorem answer_lines (w : Word) (s : State) : (s.answer w).lines = s.lines := rfl
@[simp] theorem answer_reply (w : Word) (s : State) : (s.answer w).reply = some w := rfl
@[simp] theorem answer_host (w : Word) (s : State) : (s.answer w).host = s.host := rfl
@[simp] theorem answer_env (w : Word) (s : State) : (s.answer w).env = s.env := rfl

/-! ### silent -/

@[simp] theorem silent_cmd (s : State) : (s.silent).cmd = s.cmd := rfl
@[simp] theorem silent_done (s : State) : (s.silent).done = s.done := rfl
@[simp] theorem silent_err (s : State) : (s.silent).err = s.err := rfl
@[simp] theorem silent_cause (s : State) : (s.silent).cause = s.cause := rfl
@[simp] theorem silent_rxValid (s : State) : (s.silent).rxValid = s.rxValid := rfl
@[simp] theorem silent_reportValid (s : State) : (s.silent).reportValid = s.reportValid := rfl
@[simp] theorem silent_txbuf (s : State) : (s.silent).txbuf = s.txbuf := rfl
@[simp] theorem silent_rxbuf (s : State) : (s.silent).rxbuf = s.rxbuf := rfl
@[simp] theorem silent_report (s : State) : (s.silent).report = s.report := rfl
@[simp] theorem silent_phase (s : State) : (s.silent).phase = s.phase := rfl
@[simp] theorem silent_idx (s : State) : (s.silent).idx = s.idx := rfl
@[simp] theorem silent_curAddr (s : State) : (s.silent).curAddr = s.curAddr := rfl
@[simp] theorem silent_curRw (s : State) : (s.silent).curRw = s.curRw := rfl
@[simp] theorem silent_curLen (s : State) : (s.silent).curLen = s.curLen := rfl
@[simp] theorem silent_curCause (s : State) : (s.silent).curCause = s.curCause := rfl
@[simp] theorem silent_sclLow (s : State) : (s.silent).sclLow = s.sclLow := rfl
@[simp] theorem silent_sdaLow (s : State) : (s.silent).sdaLow = s.sdaLow := rfl
@[simp] theorem silent_trace (s : State) : (s.silent).trace = s.trace := rfl
@[simp] theorem silent_fault (s : State) : (s.silent).fault = s.fault := rfl
@[simp] theorem silent_lines (s : State) : (s.silent).lines = s.lines := rfl
@[simp] theorem silent_reply (s : State) : (s.silent).reply = none := rfl
@[simp] theorem silent_host (s : State) : (s.silent).host = s.host := rfl
@[simp] theorem silent_env (s : State) : (s.silent).env = s.env := rfl

/-! ### clearFlags -/

@[simp] theorem clearFlags_cmd (s : State) : (s.clearFlags).cmd = s.cmd := rfl
@[simp] theorem clearFlags_done (s : State) : (s.clearFlags).done = false := rfl
@[simp] theorem clearFlags_err (s : State) : (s.clearFlags).err = false := rfl
@[simp] theorem clearFlags_cause (s : State) : (s.clearFlags).cause = .none := rfl
@[simp] theorem clearFlags_rxValid (s : State) : (s.clearFlags).rxValid = false := rfl
@[simp] theorem clearFlags_reportValid (s : State) : (s.clearFlags).reportValid = s.reportValid := rfl
@[simp] theorem clearFlags_txbuf (s : State) : (s.clearFlags).txbuf = s.txbuf := rfl
@[simp] theorem clearFlags_rxbuf (s : State) : (s.clearFlags).rxbuf = s.rxbuf := rfl
@[simp] theorem clearFlags_report (s : State) : (s.clearFlags).report = s.report := rfl
@[simp] theorem clearFlags_phase (s : State) : (s.clearFlags).phase = s.phase := rfl
@[simp] theorem clearFlags_idx (s : State) : (s.clearFlags).idx = s.idx := rfl
@[simp] theorem clearFlags_curAddr (s : State) : (s.clearFlags).curAddr = s.curAddr := rfl
@[simp] theorem clearFlags_curRw (s : State) : (s.clearFlags).curRw = s.curRw := rfl
@[simp] theorem clearFlags_curLen (s : State) : (s.clearFlags).curLen = s.curLen := rfl
@[simp] theorem clearFlags_curCause (s : State) : (s.clearFlags).curCause = s.curCause := rfl
@[simp] theorem clearFlags_sclLow (s : State) : (s.clearFlags).sclLow = s.sclLow := rfl
@[simp] theorem clearFlags_sdaLow (s : State) : (s.clearFlags).sdaLow = s.sdaLow := rfl
@[simp] theorem clearFlags_trace (s : State) : (s.clearFlags).trace = s.trace := rfl
@[simp] theorem clearFlags_fault (s : State) : (s.clearFlags).fault = s.fault := rfl
@[simp] theorem clearFlags_lines (s : State) : (s.clearFlags).lines = s.lines := rfl
@[simp] theorem clearFlags_reply (s : State) : (s.clearFlags).reply = s.reply := rfl
@[simp] theorem clearFlags_host (s : State) : (s.clearFlags).host = s.host := rfl
@[simp] theorem clearFlags_env (s : State) : (s.clearFlags).env = s.env := rfl

/-! ### rejectFlags -/

@[simp] theorem rejectFlags_cmd (s : State) : (s.rejectFlags).cmd = s.cmd := rfl
@[simp] theorem rejectFlags_done (s : State) : (s.rejectFlags).done = true := rfl
@[simp] theorem rejectFlags_err (s : State) : (s.rejectFlags).err = true := rfl
@[simp] theorem rejectFlags_cause (s : State) : (s.rejectFlags).cause = .configRejected := rfl
@[simp] theorem rejectFlags_rxValid (s : State) : (s.rejectFlags).rxValid = false := rfl
@[simp] theorem rejectFlags_reportValid (s : State) : (s.rejectFlags).reportValid = s.reportValid := rfl
@[simp] theorem rejectFlags_txbuf (s : State) : (s.rejectFlags).txbuf = s.txbuf := rfl
@[simp] theorem rejectFlags_rxbuf (s : State) : (s.rejectFlags).rxbuf = s.rxbuf := rfl
@[simp] theorem rejectFlags_report (s : State) : (s.rejectFlags).report = s.report := rfl
@[simp] theorem rejectFlags_phase (s : State) : (s.rejectFlags).phase = s.phase := rfl
@[simp] theorem rejectFlags_idx (s : State) : (s.rejectFlags).idx = s.idx := rfl
@[simp] theorem rejectFlags_curAddr (s : State) : (s.rejectFlags).curAddr = s.curAddr := rfl
@[simp] theorem rejectFlags_curRw (s : State) : (s.rejectFlags).curRw = s.curRw := rfl
@[simp] theorem rejectFlags_curLen (s : State) : (s.rejectFlags).curLen = s.curLen := rfl
@[simp] theorem rejectFlags_curCause (s : State) : (s.rejectFlags).curCause = s.curCause := rfl
@[simp] theorem rejectFlags_sclLow (s : State) : (s.rejectFlags).sclLow = s.sclLow := rfl
@[simp] theorem rejectFlags_sdaLow (s : State) : (s.rejectFlags).sdaLow = s.sdaLow := rfl
@[simp] theorem rejectFlags_trace (s : State) : (s.rejectFlags).trace = s.trace := rfl
@[simp] theorem rejectFlags_fault (s : State) : (s.rejectFlags).fault = s.fault := rfl
@[simp] theorem rejectFlags_lines (s : State) : (s.rejectFlags).lines = s.lines := rfl
@[simp] theorem rejectFlags_reply (s : State) : (s.rejectFlags).reply = s.reply := rfl
@[simp] theorem rejectFlags_host (s : State) : (s.rejectFlags).host = s.host := rfl
@[simp] theorem rejectFlags_env (s : State) : (s.rejectFlags).env = s.env := rfl

/-! ### completeFlags -/

@[simp] theorem completeFlags_cmd (s : State) : (s.completeFlags).cmd = s.cmd := rfl
@[simp] theorem completeFlags_done (s : State) : (s.completeFlags).done = true := rfl
@[simp] theorem completeFlags_err (s : State) : (s.completeFlags).err = (!s.ok) := rfl
@[simp] theorem completeFlags_cause (s : State) : (s.completeFlags).cause = s.curCause := rfl
@[simp] theorem completeFlags_rxValid (s : State) : (s.completeFlags).rxValid = (s.curRw && s.ok) := rfl
@[simp] theorem completeFlags_reportValid (s : State) : (s.completeFlags).reportValid = s.reportValid := rfl
@[simp] theorem completeFlags_txbuf (s : State) : (s.completeFlags).txbuf = s.txbuf := rfl
@[simp] theorem completeFlags_rxbuf (s : State) : (s.completeFlags).rxbuf = s.rxbuf := rfl
@[simp] theorem completeFlags_report (s : State) : (s.completeFlags).report = s.report := rfl
@[simp] theorem completeFlags_phase (s : State) : (s.completeFlags).phase = s.phase := rfl
@[simp] theorem completeFlags_idx (s : State) : (s.completeFlags).idx = s.idx := rfl
@[simp] theorem completeFlags_curAddr (s : State) : (s.completeFlags).curAddr = s.curAddr := rfl
@[simp] theorem completeFlags_curRw (s : State) : (s.completeFlags).curRw = s.curRw := rfl
@[simp] theorem completeFlags_curLen (s : State) : (s.completeFlags).curLen = s.curLen := rfl
@[simp] theorem completeFlags_curCause (s : State) : (s.completeFlags).curCause = s.curCause := rfl
@[simp] theorem completeFlags_sclLow (s : State) : (s.completeFlags).sclLow = s.sclLow := rfl
@[simp] theorem completeFlags_sdaLow (s : State) : (s.completeFlags).sdaLow = s.sdaLow := rfl
@[simp] theorem completeFlags_trace (s : State) : (s.completeFlags).trace = s.trace := rfl
@[simp] theorem completeFlags_fault (s : State) : (s.completeFlags).fault = s.fault := rfl
@[simp] theorem completeFlags_lines (s : State) : (s.completeFlags).lines = s.lines := rfl
@[simp] theorem completeFlags_reply (s : State) : (s.completeFlags).reply = s.reply := rfl
@[simp] theorem completeFlags_host (s : State) : (s.completeFlags).host = s.host := rfl
@[simp] theorem completeFlags_env (s : State) : (s.completeFlags).env = s.env := rfl

/-! ### acceptCommand -/

@[simp] theorem acceptCommand_cmd (rw : Bool) (a : BitVec 7) (n : BitVec 4) (s : State) : (s.acceptCommand rw a n).cmd = s.cmd := rfl
@[simp] theorem acceptCommand_done (rw : Bool) (a : BitVec 7) (n : BitVec 4) (s : State) : (s.acceptCommand rw a n).done = false := rfl
@[simp] theorem acceptCommand_err (rw : Bool) (a : BitVec 7) (n : BitVec 4) (s : State) : (s.acceptCommand rw a n).err = false := rfl
@[simp] theorem acceptCommand_cause (rw : Bool) (a : BitVec 7) (n : BitVec 4) (s : State) : (s.acceptCommand rw a n).cause = .none := rfl
@[simp] theorem acceptCommand_rxValid (rw : Bool) (a : BitVec 7) (n : BitVec 4) (s : State) : (s.acceptCommand rw a n).rxValid = false := rfl
@[simp] theorem acceptCommand_reportValid (rw : Bool) (a : BitVec 7) (n : BitVec 4) (s : State) : (s.acceptCommand rw a n).reportValid = s.reportValid := rfl
@[simp] theorem acceptCommand_txbuf (rw : Bool) (a : BitVec 7) (n : BitVec 4) (s : State) : (s.acceptCommand rw a n).txbuf = s.txbuf := rfl
@[simp] theorem acceptCommand_rxbuf (rw : Bool) (a : BitVec 7) (n : BitVec 4) (s : State) : (s.acceptCommand rw a n).rxbuf = s.rxbuf := rfl
@[simp] theorem acceptCommand_report (rw : Bool) (a : BitVec 7) (n : BitVec 4) (s : State) : (s.acceptCommand rw a n).report = s.report := rfl
@[simp] theorem acceptCommand_phase (rw : Bool) (a : BitVec 7) (n : BitVec 4) (s : State) : (s.acceptCommand rw a n).phase = .start := rfl
@[simp] theorem acceptCommand_idx (rw : Bool) (a : BitVec 7) (n : BitVec 4) (s : State) : (s.acceptCommand rw a n).idx = 0 := rfl
@[simp] theorem acceptCommand_curAddr (rw : Bool) (a : BitVec 7) (n : BitVec 4) (s : State) : (s.acceptCommand rw a n).curAddr = a := rfl
@[simp] theorem acceptCommand_curRw (rw : Bool) (a : BitVec 7) (n : BitVec 4) (s : State) : (s.acceptCommand rw a n).curRw = rw := rfl
@[simp] theorem acceptCommand_curLen (rw : Bool) (a : BitVec 7) (n : BitVec 4) (s : State) : (s.acceptCommand rw a n).curLen = n := rfl
@[simp] theorem acceptCommand_curCause (rw : Bool) (a : BitVec 7) (n : BitVec 4) (s : State) : (s.acceptCommand rw a n).curCause = .none := rfl
@[simp] theorem acceptCommand_sclLow (rw : Bool) (a : BitVec 7) (n : BitVec 4) (s : State) : (s.acceptCommand rw a n).sclLow = s.sclLow := rfl
@[simp] theorem acceptCommand_sdaLow (rw : Bool) (a : BitVec 7) (n : BitVec 4) (s : State) : (s.acceptCommand rw a n).sdaLow = s.sdaLow := rfl
@[simp] theorem acceptCommand_trace (rw : Bool) (a : BitVec 7) (n : BitVec 4) (s : State) : (s.acceptCommand rw a n).trace = s.trace := rfl
@[simp] theorem acceptCommand_fault (rw : Bool) (a : BitVec 7) (n : BitVec 4) (s : State) : (s.acceptCommand rw a n).fault = s.fault := rfl
@[simp] theorem acceptCommand_lines (rw : Bool) (a : BitVec 7) (n : BitVec 4) (s : State) : (s.acceptCommand rw a n).lines = s.lines := rfl
@[simp] theorem acceptCommand_reply (rw : Bool) (a : BitVec 7) (n : BitVec 4) (s : State) : (s.acceptCommand rw a n).reply = s.reply := rfl
@[simp] theorem acceptCommand_host (rw : Bool) (a : BitVec 7) (n : BitVec 4) (s : State) : (s.acceptCommand rw a n).host = s.host := rfl
@[simp] theorem acceptCommand_env (rw : Bool) (a : BitVec 7) (n : BitVec 4) (s : State) : (s.acceptCommand rw a n).env = s.env := rfl

/-! ### emit -/

@[simp] theorem emit_cmd (y : Symbol) (s : State) : (s.emit y).cmd = s.cmd := rfl
@[simp] theorem emit_done (y : Symbol) (s : State) : (s.emit y).done = s.done := rfl
@[simp] theorem emit_err (y : Symbol) (s : State) : (s.emit y).err = s.err := rfl
@[simp] theorem emit_cause (y : Symbol) (s : State) : (s.emit y).cause = s.cause := rfl
@[simp] theorem emit_rxValid (y : Symbol) (s : State) : (s.emit y).rxValid = s.rxValid := rfl
@[simp] theorem emit_reportValid (y : Symbol) (s : State) : (s.emit y).reportValid = s.reportValid := rfl
@[simp] theorem emit_txbuf (y : Symbol) (s : State) : (s.emit y).txbuf = s.txbuf := rfl
@[simp] theorem emit_rxbuf (y : Symbol) (s : State) : (s.emit y).rxbuf = s.rxbuf := rfl
@[simp] theorem emit_report (y : Symbol) (s : State) : (s.emit y).report = s.report := rfl
@[simp] theorem emit_phase (y : Symbol) (s : State) : (s.emit y).phase = s.phase := rfl
@[simp] theorem emit_idx (y : Symbol) (s : State) : (s.emit y).idx = s.idx := rfl
@[simp] theorem emit_curAddr (y : Symbol) (s : State) : (s.emit y).curAddr = s.curAddr := rfl
@[simp] theorem emit_curRw (y : Symbol) (s : State) : (s.emit y).curRw = s.curRw := rfl
@[simp] theorem emit_curLen (y : Symbol) (s : State) : (s.emit y).curLen = s.curLen := rfl
@[simp] theorem emit_curCause (y : Symbol) (s : State) : (s.emit y).curCause = s.curCause := rfl
@[simp] theorem emit_sclLow (y : Symbol) (s : State) : (s.emit y).sclLow = (endSetting y).sclLow := rfl
@[simp] theorem emit_sdaLow (y : Symbol) (s : State) : (s.emit y).sdaLow = (endSetting y).sdaLow := rfl
@[simp] theorem emit_trace (y : Symbol) (s : State) : (s.emit y).trace = s.trace ++ [y] := rfl
@[simp] theorem emit_fault (y : Symbol) (s : State) : (s.emit y).fault = s.fault := rfl
@[simp] theorem emit_lines (y : Symbol) (s : State) : (s.emit y).lines = symbolLines y := rfl
@[simp] theorem emit_reply (y : Symbol) (s : State) : (s.emit y).reply = s.reply := rfl
@[simp] theorem emit_host (y : Symbol) (s : State) : (s.emit y).host = s.host := rfl
@[simp] theorem emit_env (y : Symbol) (s : State) : (s.emit y).env = s.env := rfl

/-! ### release -/

@[simp] theorem release_cmd (k : Nat) (ls : List LineStep) (s : State) : (s.release k ls).cmd = s.cmd := rfl
@[simp] theorem release_done (k : Nat) (ls : List LineStep) (s : State) : (s.release k ls).done = s.done := rfl
@[simp] theorem release_err (k : Nat) (ls : List LineStep) (s : State) : (s.release k ls).err = s.err := rfl
@[simp] theorem release_cause (k : Nat) (ls : List LineStep) (s : State) : (s.release k ls).cause = s.cause := rfl
@[simp] theorem release_rxValid (k : Nat) (ls : List LineStep) (s : State) : (s.release k ls).rxValid = s.rxValid := rfl
@[simp] theorem release_reportValid (k : Nat) (ls : List LineStep) (s : State) : (s.release k ls).reportValid = s.reportValid := rfl
@[simp] theorem release_txbuf (k : Nat) (ls : List LineStep) (s : State) : (s.release k ls).txbuf = s.txbuf := rfl
@[simp] theorem release_rxbuf (k : Nat) (ls : List LineStep) (s : State) : (s.release k ls).rxbuf = s.rxbuf := rfl
@[simp] theorem release_report (k : Nat) (ls : List LineStep) (s : State) : (s.release k ls).report = s.report := rfl
@[simp] theorem release_phase (k : Nat) (ls : List LineStep) (s : State) : (s.release k ls).phase = s.phase := rfl
@[simp] theorem release_idx (k : Nat) (ls : List LineStep) (s : State) : (s.release k ls).idx = s.idx := rfl
@[simp] theorem release_curAddr (k : Nat) (ls : List LineStep) (s : State) : (s.release k ls).curAddr = s.curAddr := rfl
@[simp] theorem release_curRw (k : Nat) (ls : List LineStep) (s : State) : (s.release k ls).curRw = s.curRw := rfl
@[simp] theorem release_curLen (k : Nat) (ls : List LineStep) (s : State) : (s.release k ls).curLen = s.curLen := rfl
@[simp] theorem release_curCause (k : Nat) (ls : List LineStep) (s : State) : (s.release k ls).curCause = s.curCause := rfl
@[simp] theorem release_sclLow (k : Nat) (ls : List LineStep) (s : State) : (s.release k ls).sclLow = false := rfl
@[simp] theorem release_sdaLow (k : Nat) (ls : List LineStep) (s : State) : (s.release k ls).sdaLow = false := rfl
@[simp] theorem release_trace (k : Nat) (ls : List LineStep) (s : State) : (s.release k ls).trace = s.trace ++ [.timeoutRelease] := rfl
@[simp] theorem release_fault (k : Nat) (ls : List LineStep) (s : State) : (s.release k ls).fault = s.fault := rfl
@[simp] theorem release_lines (k : Nat) (ls : List LineStep) (s : State) : (s.release k ls).lines = ls.take k ++ [released] := rfl
@[simp] theorem release_reply (k : Nat) (ls : List LineStep) (s : State) : (s.release k ls).reply = s.reply := rfl
@[simp] theorem release_host (k : Nat) (ls : List LineStep) (s : State) : (s.release k ls).host = s.host := rfl
@[simp] theorem release_env (k : Nat) (ls : List LineStep) (s : State) : (s.release k ls).env = s.env := rfl

/-! ### latchReport -/

@[simp] theorem latchReport_cmd (s : State) : (s.latchReport).cmd = s.cmd := rfl
@[simp] theorem latchReport_done (s : State) : (s.latchReport).done = s.done := rfl
@[simp] theorem latchReport_err (s : State) : (s.latchReport).err = s.err := rfl
@[simp] theorem latchReport_cause (s : State) : (s.latchReport).cause = s.cause := rfl
@[simp] theorem latchReport_rxValid (s : State) : (s.latchReport).rxValid = s.rxValid := rfl
@[simp] theorem latchReport_reportValid (s : State) : (s.latchReport).reportValid = true := rfl
@[simp] theorem latchReport_txbuf (s : State) : (s.latchReport).txbuf = s.txbuf := rfl
@[simp] theorem latchReport_rxbuf (s : State) : (s.latchReport).rxbuf = s.rxbuf := rfl
@[simp] theorem latchReport_report (s : State) : (s.latchReport).report = reportOf s.rxbuf := rfl
@[simp] theorem latchReport_phase (s : State) : (s.latchReport).phase = s.phase := rfl
@[simp] theorem latchReport_idx (s : State) : (s.latchReport).idx = s.idx := rfl
@[simp] theorem latchReport_curAddr (s : State) : (s.latchReport).curAddr = s.curAddr := rfl
@[simp] theorem latchReport_curRw (s : State) : (s.latchReport).curRw = s.curRw := rfl
@[simp] theorem latchReport_curLen (s : State) : (s.latchReport).curLen = s.curLen := rfl
@[simp] theorem latchReport_curCause (s : State) : (s.latchReport).curCause = s.curCause := rfl
@[simp] theorem latchReport_sclLow (s : State) : (s.latchReport).sclLow = s.sclLow := rfl
@[simp] theorem latchReport_sdaLow (s : State) : (s.latchReport).sdaLow = s.sdaLow := rfl
@[simp] theorem latchReport_trace (s : State) : (s.latchReport).trace = s.trace := rfl
@[simp] theorem latchReport_fault (s : State) : (s.latchReport).fault = s.fault := rfl
@[simp] theorem latchReport_lines (s : State) : (s.latchReport).lines = s.lines := rfl
@[simp] theorem latchReport_reply (s : State) : (s.latchReport).reply = s.reply := rfl
@[simp] theorem latchReport_host (s : State) : (s.latchReport).host = s.host := rfl
@[simp] theorem latchReport_env (s : State) : (s.latchReport).env = s.env := rfl

/-! ### nackTo -/

@[simp] theorem nackTo_cmd (c : Cause) (s : State) : (s.nackTo c).cmd = s.cmd := rfl
@[simp] theorem nackTo_done (c : Cause) (s : State) : (s.nackTo c).done = s.done := rfl
@[simp] theorem nackTo_err (c : Cause) (s : State) : (s.nackTo c).err = s.err := rfl
@[simp] theorem nackTo_cause (c : Cause) (s : State) : (s.nackTo c).cause = s.cause := rfl
@[simp] theorem nackTo_rxValid (c : Cause) (s : State) : (s.nackTo c).rxValid = s.rxValid := rfl
@[simp] theorem nackTo_reportValid (c : Cause) (s : State) : (s.nackTo c).reportValid = s.reportValid := rfl
@[simp] theorem nackTo_txbuf (c : Cause) (s : State) : (s.nackTo c).txbuf = s.txbuf := rfl
@[simp] theorem nackTo_rxbuf (c : Cause) (s : State) : (s.nackTo c).rxbuf = s.rxbuf := rfl
@[simp] theorem nackTo_report (c : Cause) (s : State) : (s.nackTo c).report = s.report := rfl
@[simp] theorem nackTo_phase (c : Cause) (s : State) : (s.nackTo c).phase = .stop := rfl
@[simp] theorem nackTo_idx (c : Cause) (s : State) : (s.nackTo c).idx = s.idx := rfl
@[simp] theorem nackTo_curAddr (c : Cause) (s : State) : (s.nackTo c).curAddr = s.curAddr := rfl
@[simp] theorem nackTo_curRw (c : Cause) (s : State) : (s.nackTo c).curRw = s.curRw := rfl
@[simp] theorem nackTo_curLen (c : Cause) (s : State) : (s.nackTo c).curLen = s.curLen := rfl
@[simp] theorem nackTo_curCause (c : Cause) (s : State) : (s.nackTo c).curCause = c := rfl
@[simp] theorem nackTo_sclLow (c : Cause) (s : State) : (s.nackTo c).sclLow = s.sclLow := rfl
@[simp] theorem nackTo_sdaLow (c : Cause) (s : State) : (s.nackTo c).sdaLow = s.sdaLow := rfl
@[simp] theorem nackTo_trace (c : Cause) (s : State) : (s.nackTo c).trace = s.trace := rfl
@[simp] theorem nackTo_fault (c : Cause) (s : State) : (s.nackTo c).fault = s.fault := rfl
@[simp] theorem nackTo_lines (c : Cause) (s : State) : (s.nackTo c).lines = s.lines := rfl
@[simp] theorem nackTo_reply (c : Cause) (s : State) : (s.nackTo c).reply = s.reply := rfl
@[simp] theorem nackTo_host (c : Cause) (s : State) : (s.nackTo c).host = s.host := rfl
@[simp] theorem nackTo_env (c : Cause) (s : State) : (s.nackTo c).env = s.env := rfl

/-! ### noteTimeout -/

@[simp] theorem noteTimeout_cmd (s : State) : (s.noteTimeout).cmd = s.cmd := rfl
@[simp] theorem noteTimeout_done (s : State) : (s.noteTimeout).done = s.done := rfl
@[simp] theorem noteTimeout_err (s : State) : (s.noteTimeout).err = s.err := rfl
@[simp] theorem noteTimeout_cause (s : State) : (s.noteTimeout).cause = s.cause := rfl
@[simp] theorem noteTimeout_rxValid (s : State) : (s.noteTimeout).rxValid = s.rxValid := rfl
@[simp] theorem noteTimeout_reportValid (s : State) : (s.noteTimeout).reportValid = s.reportValid := rfl
@[simp] theorem noteTimeout_txbuf (s : State) : (s.noteTimeout).txbuf = s.txbuf := rfl
@[simp] theorem noteTimeout_rxbuf (s : State) : (s.noteTimeout).rxbuf = s.rxbuf := rfl
@[simp] theorem noteTimeout_report (s : State) : (s.noteTimeout).report = s.report := rfl
@[simp] theorem noteTimeout_phase (s : State) : (s.noteTimeout).phase = s.phase := rfl
@[simp] theorem noteTimeout_idx (s : State) : (s.noteTimeout).idx = s.idx := rfl
@[simp] theorem noteTimeout_curAddr (s : State) : (s.noteTimeout).curAddr = s.curAddr := rfl
@[simp] theorem noteTimeout_curRw (s : State) : (s.noteTimeout).curRw = s.curRw := rfl
@[simp] theorem noteTimeout_curLen (s : State) : (s.noteTimeout).curLen = s.curLen := rfl
@[simp] theorem noteTimeout_curCause (s : State) : (s.noteTimeout).curCause = (if s.ok then .timeout else s.curCause) := rfl
@[simp] theorem noteTimeout_sclLow (s : State) : (s.noteTimeout).sclLow = s.sclLow := rfl
@[simp] theorem noteTimeout_sdaLow (s : State) : (s.noteTimeout).sdaLow = s.sdaLow := rfl
@[simp] theorem noteTimeout_trace (s : State) : (s.noteTimeout).trace = s.trace := rfl
@[simp] theorem noteTimeout_fault (s : State) : (s.noteTimeout).fault = s.fault := rfl
@[simp] theorem noteTimeout_lines (s : State) : (s.noteTimeout).lines = s.lines := rfl
@[simp] theorem noteTimeout_reply (s : State) : (s.noteTimeout).reply = s.reply := rfl
@[simp] theorem noteTimeout_host (s : State) : (s.noteTimeout).host = s.host := rfl
@[simp] theorem noteTimeout_env (s : State) : (s.noteTimeout).env = s.env := rfl

/-! ### passTurn -/

@[simp] theorem passTurn_cmd (s : State) : (s.passTurn).cmd = s.cmd := rfl
@[simp] theorem passTurn_done (s : State) : (s.passTurn).done = s.done := rfl
@[simp] theorem passTurn_err (s : State) : (s.passTurn).err = s.err := rfl
@[simp] theorem passTurn_cause (s : State) : (s.passTurn).cause = s.cause := rfl
@[simp] theorem passTurn_rxValid (s : State) : (s.passTurn).rxValid = s.rxValid := rfl
@[simp] theorem passTurn_reportValid (s : State) : (s.passTurn).reportValid = s.reportValid := rfl
@[simp] theorem passTurn_txbuf (s : State) : (s.passTurn).txbuf = s.txbuf := rfl
@[simp] theorem passTurn_rxbuf (s : State) : (s.passTurn).rxbuf = s.rxbuf := rfl
@[simp] theorem passTurn_report (s : State) : (s.passTurn).report = s.report := rfl
@[simp] theorem passTurn_phase (s : State) : (s.passTurn).phase = s.phase := rfl
@[simp] theorem passTurn_idx (s : State) : (s.passTurn).idx = s.idx := rfl
@[simp] theorem passTurn_curAddr (s : State) : (s.passTurn).curAddr = s.curAddr := rfl
@[simp] theorem passTurn_curRw (s : State) : (s.passTurn).curRw = s.curRw := rfl
@[simp] theorem passTurn_curLen (s : State) : (s.passTurn).curLen = s.curLen := rfl
@[simp] theorem passTurn_curCause (s : State) : (s.passTurn).curCause = s.curCause := rfl
@[simp] theorem passTurn_sclLow (s : State) : (s.passTurn).sclLow = s.sclLow := rfl
@[simp] theorem passTurn_sdaLow (s : State) : (s.passTurn).sdaLow = s.sdaLow := rfl
@[simp] theorem passTurn_trace (s : State) : (s.passTurn).trace = s.trace := rfl
@[simp] theorem passTurn_fault (s : State) : (s.passTurn).fault = s.fault := rfl
@[simp] theorem passTurn_lines (s : State) : (s.passTurn).lines = s.lines := rfl
@[simp] theorem passTurn_reply (s : State) : (s.passTurn).reply = s.reply := rfl
@[simp] theorem passTurn_host (s : State) : (s.passTurn).host = s.host := rfl
@[simp] theorem passTurn_env (s : State) : (s.passTurn).env = { s.env with turns := s.env.turns.tail, tick := s.env.tick + 1 } := rfl

/-! ### dropAnswer -/

@[simp] theorem dropAnswer_cmd (s : State) : (s.dropAnswer).cmd = s.cmd := rfl
@[simp] theorem dropAnswer_done (s : State) : (s.dropAnswer).done = s.done := rfl
@[simp] theorem dropAnswer_err (s : State) : (s.dropAnswer).err = s.err := rfl
@[simp] theorem dropAnswer_cause (s : State) : (s.dropAnswer).cause = s.cause := rfl
@[simp] theorem dropAnswer_rxValid (s : State) : (s.dropAnswer).rxValid = s.rxValid := rfl
@[simp] theorem dropAnswer_reportValid (s : State) : (s.dropAnswer).reportValid = s.reportValid := rfl
@[simp] theorem dropAnswer_txbuf (s : State) : (s.dropAnswer).txbuf = s.txbuf := rfl
@[simp] theorem dropAnswer_rxbuf (s : State) : (s.dropAnswer).rxbuf = s.rxbuf := rfl
@[simp] theorem dropAnswer_report (s : State) : (s.dropAnswer).report = s.report := rfl
@[simp] theorem dropAnswer_phase (s : State) : (s.dropAnswer).phase = s.phase := rfl
@[simp] theorem dropAnswer_idx (s : State) : (s.dropAnswer).idx = s.idx := rfl
@[simp] theorem dropAnswer_curAddr (s : State) : (s.dropAnswer).curAddr = s.curAddr := rfl
@[simp] theorem dropAnswer_curRw (s : State) : (s.dropAnswer).curRw = s.curRw := rfl
@[simp] theorem dropAnswer_curLen (s : State) : (s.dropAnswer).curLen = s.curLen := rfl
@[simp] theorem dropAnswer_curCause (s : State) : (s.dropAnswer).curCause = s.curCause := rfl
@[simp] theorem dropAnswer_sclLow (s : State) : (s.dropAnswer).sclLow = s.sclLow := rfl
@[simp] theorem dropAnswer_sdaLow (s : State) : (s.dropAnswer).sdaLow = s.sdaLow := rfl
@[simp] theorem dropAnswer_trace (s : State) : (s.dropAnswer).trace = s.trace := rfl
@[simp] theorem dropAnswer_fault (s : State) : (s.dropAnswer).fault = s.fault := rfl
@[simp] theorem dropAnswer_lines (s : State) : (s.dropAnswer).lines = s.lines := rfl
@[simp] theorem dropAnswer_reply (s : State) : (s.dropAnswer).reply = s.reply := rfl
@[simp] theorem dropAnswer_host (s : State) : (s.dropAnswer).host = s.host := rfl
@[simp] theorem dropAnswer_env (s : State) : (s.dropAnswer).env = { s.env with answers := s.env.answers.tail } := rfl

/-! ### popOp -/

@[simp] theorem popOp_cmd (s : State) : (s.popOp).cmd = s.cmd := rfl
@[simp] theorem popOp_done (s : State) : (s.popOp).done = s.done := rfl
@[simp] theorem popOp_err (s : State) : (s.popOp).err = s.err := rfl
@[simp] theorem popOp_cause (s : State) : (s.popOp).cause = s.cause := rfl
@[simp] theorem popOp_rxValid (s : State) : (s.popOp).rxValid = s.rxValid := rfl
@[simp] theorem popOp_reportValid (s : State) : (s.popOp).reportValid = s.reportValid := rfl
@[simp] theorem popOp_txbuf (s : State) : (s.popOp).txbuf = s.txbuf := rfl
@[simp] theorem popOp_rxbuf (s : State) : (s.popOp).rxbuf = s.rxbuf := rfl
@[simp] theorem popOp_report (s : State) : (s.popOp).report = s.report := rfl
@[simp] theorem popOp_phase (s : State) : (s.popOp).phase = s.phase := rfl
@[simp] theorem popOp_idx (s : State) : (s.popOp).idx = s.idx := rfl
@[simp] theorem popOp_curAddr (s : State) : (s.popOp).curAddr = s.curAddr := rfl
@[simp] theorem popOp_curRw (s : State) : (s.popOp).curRw = s.curRw := rfl
@[simp] theorem popOp_curLen (s : State) : (s.popOp).curLen = s.curLen := rfl
@[simp] theorem popOp_curCause (s : State) : (s.popOp).curCause = s.curCause := rfl
@[simp] theorem popOp_sclLow (s : State) : (s.popOp).sclLow = s.sclLow := rfl
@[simp] theorem popOp_sdaLow (s : State) : (s.popOp).sdaLow = s.sdaLow := rfl
@[simp] theorem popOp_trace (s : State) : (s.popOp).trace = s.trace := rfl
@[simp] theorem popOp_fault (s : State) : (s.popOp).fault = s.fault := rfl
@[simp] theorem popOp_lines (s : State) : (s.popOp).lines = s.lines := rfl
@[simp] theorem popOp_reply (s : State) : (s.popOp).reply = s.reply := rfl
@[simp] theorem popOp_host (s : State) : (s.popOp).host = { s.host with program := s.host.program.tail } := rfl
@[simp] theorem popOp_env (s : State) : (s.popOp).env = s.env := rfl

/-! ### setDriver -/

@[simp] theorem setDriver_cmd (d : DriverState) (s : State) : (s.setDriver d).cmd = s.cmd := rfl
@[simp] theorem setDriver_done (d : DriverState) (s : State) : (s.setDriver d).done = s.done := rfl
@[simp] theorem setDriver_err (d : DriverState) (s : State) : (s.setDriver d).err = s.err := rfl
@[simp] theorem setDriver_cause (d : DriverState) (s : State) : (s.setDriver d).cause = s.cause := rfl
@[simp] theorem setDriver_rxValid (d : DriverState) (s : State) : (s.setDriver d).rxValid = s.rxValid := rfl
@[simp] theorem setDriver_reportValid (d : DriverState) (s : State) : (s.setDriver d).reportValid = s.reportValid := rfl
@[simp] theorem setDriver_txbuf (d : DriverState) (s : State) : (s.setDriver d).txbuf = s.txbuf := rfl
@[simp] theorem setDriver_rxbuf (d : DriverState) (s : State) : (s.setDriver d).rxbuf = s.rxbuf := rfl
@[simp] theorem setDriver_report (d : DriverState) (s : State) : (s.setDriver d).report = s.report := rfl
@[simp] theorem setDriver_phase (d : DriverState) (s : State) : (s.setDriver d).phase = s.phase := rfl
@[simp] theorem setDriver_idx (d : DriverState) (s : State) : (s.setDriver d).idx = s.idx := rfl
@[simp] theorem setDriver_curAddr (d : DriverState) (s : State) : (s.setDriver d).curAddr = s.curAddr := rfl
@[simp] theorem setDriver_curRw (d : DriverState) (s : State) : (s.setDriver d).curRw = s.curRw := rfl
@[simp] theorem setDriver_curLen (d : DriverState) (s : State) : (s.setDriver d).curLen = s.curLen := rfl
@[simp] theorem setDriver_curCause (d : DriverState) (s : State) : (s.setDriver d).curCause = s.curCause := rfl
@[simp] theorem setDriver_sclLow (d : DriverState) (s : State) : (s.setDriver d).sclLow = s.sclLow := rfl
@[simp] theorem setDriver_sdaLow (d : DriverState) (s : State) : (s.setDriver d).sdaLow = s.sdaLow := rfl
@[simp] theorem setDriver_trace (d : DriverState) (s : State) : (s.setDriver d).trace = s.trace := rfl
@[simp] theorem setDriver_fault (d : DriverState) (s : State) : (s.setDriver d).fault = s.fault := rfl
@[simp] theorem setDriver_lines (d : DriverState) (s : State) : (s.setDriver d).lines = s.lines := rfl
@[simp] theorem setDriver_reply (d : DriverState) (s : State) : (s.setDriver d).reply = s.reply := rfl
@[simp] theorem setDriver_host (d : DriverState) (s : State) : (s.setDriver d).host = { s.host with driver := d } := rfl
@[simp] theorem setDriver_env (d : DriverState) (s : State) : (s.setDriver d).env = s.env := rfl

/-! ### push -/

@[simp] theorem push_cmd (ops : List HostOp) (s : State) : (s.push ops).cmd = s.cmd := rfl
@[simp] theorem push_done (ops : List HostOp) (s : State) : (s.push ops).done = s.done := rfl
@[simp] theorem push_err (ops : List HostOp) (s : State) : (s.push ops).err = s.err := rfl
@[simp] theorem push_cause (ops : List HostOp) (s : State) : (s.push ops).cause = s.cause := rfl
@[simp] theorem push_rxValid (ops : List HostOp) (s : State) : (s.push ops).rxValid = s.rxValid := rfl
@[simp] theorem push_reportValid (ops : List HostOp) (s : State) : (s.push ops).reportValid = s.reportValid := rfl
@[simp] theorem push_txbuf (ops : List HostOp) (s : State) : (s.push ops).txbuf = s.txbuf := rfl
@[simp] theorem push_rxbuf (ops : List HostOp) (s : State) : (s.push ops).rxbuf = s.rxbuf := rfl
@[simp] theorem push_report (ops : List HostOp) (s : State) : (s.push ops).report = s.report := rfl
@[simp] theorem push_phase (ops : List HostOp) (s : State) : (s.push ops).phase = s.phase := rfl
@[simp] theorem push_idx (ops : List HostOp) (s : State) : (s.push ops).idx = s.idx := rfl
@[simp] theorem push_curAddr (ops : List HostOp) (s : State) : (s.push ops).curAddr = s.curAddr := rfl
@[simp] theorem push_curRw (ops : List HostOp) (s : State) : (s.push ops).curRw = s.curRw := rfl
@[simp] theorem push_curLen (ops : List HostOp) (s : State) : (s.push ops).curLen = s.curLen := rfl
@[simp] theorem push_curCause (ops : List HostOp) (s : State) : (s.push ops).curCause = s.curCause := rfl
@[simp] theorem push_sclLow (ops : List HostOp) (s : State) : (s.push ops).sclLow = s.sclLow := rfl
@[simp] theorem push_sdaLow (ops : List HostOp) (s : State) : (s.push ops).sdaLow = s.sdaLow := rfl
@[simp] theorem push_trace (ops : List HostOp) (s : State) : (s.push ops).trace = s.trace := rfl
@[simp] theorem push_fault (ops : List HostOp) (s : State) : (s.push ops).fault = s.fault := rfl
@[simp] theorem push_lines (ops : List HostOp) (s : State) : (s.push ops).lines = s.lines := rfl
@[simp] theorem push_reply (ops : List HostOp) (s : State) : (s.push ops).reply = s.reply := rfl
@[simp] theorem push_host (ops : List HostOp) (s : State) : (s.push ops).host = { s.host with program := ops ++ s.host.program } := rfl
@[simp] theorem push_env (ops : List HostOp) (s : State) : (s.push ops).env = s.env := rfl

/-! ### setResult -/

@[simp] theorem setResult_cmd (r : ReportResult) (s : State) : (s.setResult r).cmd = s.cmd := rfl
@[simp] theorem setResult_done (r : ReportResult) (s : State) : (s.setResult r).done = s.done := rfl
@[simp] theorem setResult_err (r : ReportResult) (s : State) : (s.setResult r).err = s.err := rfl
@[simp] theorem setResult_cause (r : ReportResult) (s : State) : (s.setResult r).cause = s.cause := rfl
@[simp] theorem setResult_rxValid (r : ReportResult) (s : State) : (s.setResult r).rxValid = s.rxValid := rfl
@[simp] theorem setResult_reportValid (r : ReportResult) (s : State) : (s.setResult r).reportValid = s.reportValid := rfl
@[simp] theorem setResult_txbuf (r : ReportResult) (s : State) : (s.setResult r).txbuf = s.txbuf := rfl
@[simp] theorem setResult_rxbuf (r : ReportResult) (s : State) : (s.setResult r).rxbuf = s.rxbuf := rfl
@[simp] theorem setResult_report (r : ReportResult) (s : State) : (s.setResult r).report = s.report := rfl
@[simp] theorem setResult_phase (r : ReportResult) (s : State) : (s.setResult r).phase = s.phase := rfl
@[simp] theorem setResult_idx (r : ReportResult) (s : State) : (s.setResult r).idx = s.idx := rfl
@[simp] theorem setResult_curAddr (r : ReportResult) (s : State) : (s.setResult r).curAddr = s.curAddr := rfl
@[simp] theorem setResult_curRw (r : ReportResult) (s : State) : (s.setResult r).curRw = s.curRw := rfl
@[simp] theorem setResult_curLen (r : ReportResult) (s : State) : (s.setResult r).curLen = s.curLen := rfl
@[simp] theorem setResult_curCause (r : ReportResult) (s : State) : (s.setResult r).curCause = s.curCause := rfl
@[simp] theorem setResult_sclLow (r : ReportResult) (s : State) : (s.setResult r).sclLow = s.sclLow := rfl
@[simp] theorem setResult_sdaLow (r : ReportResult) (s : State) : (s.setResult r).sdaLow = s.sdaLow := rfl
@[simp] theorem setResult_trace (r : ReportResult) (s : State) : (s.setResult r).trace = s.trace := rfl
@[simp] theorem setResult_fault (r : ReportResult) (s : State) : (s.setResult r).fault = s.fault := rfl
@[simp] theorem setResult_lines (r : ReportResult) (s : State) : (s.setResult r).lines = s.lines := rfl
@[simp] theorem setResult_reply (r : ReportResult) (s : State) : (s.setResult r).reply = s.reply := rfl
@[simp] theorem setResult_host (r : ReportResult) (s : State) : (s.setResult r).host = { s.host with result := some r } := rfl
@[simp] theorem setResult_env (r : ReportResult) (s : State) : (s.setResult r).env = s.env := rfl

/-! ### setCall -/

@[simp] theorem setCall_cmd (c : Option DriverCall) (s : State) : (s.setCall c).cmd = s.cmd := rfl
@[simp] theorem setCall_done (c : Option DriverCall) (s : State) : (s.setCall c).done = s.done := rfl
@[simp] theorem setCall_err (c : Option DriverCall) (s : State) : (s.setCall c).err = s.err := rfl
@[simp] theorem setCall_cause (c : Option DriverCall) (s : State) : (s.setCall c).cause = s.cause := rfl
@[simp] theorem setCall_rxValid (c : Option DriverCall) (s : State) : (s.setCall c).rxValid = s.rxValid := rfl
@[simp] theorem setCall_reportValid (c : Option DriverCall) (s : State) : (s.setCall c).reportValid = s.reportValid := rfl
@[simp] theorem setCall_txbuf (c : Option DriverCall) (s : State) : (s.setCall c).txbuf = s.txbuf := rfl
@[simp] theorem setCall_rxbuf (c : Option DriverCall) (s : State) : (s.setCall c).rxbuf = s.rxbuf := rfl
@[simp] theorem setCall_report (c : Option DriverCall) (s : State) : (s.setCall c).report = s.report := rfl
@[simp] theorem setCall_phase (c : Option DriverCall) (s : State) : (s.setCall c).phase = s.phase := rfl
@[simp] theorem setCall_idx (c : Option DriverCall) (s : State) : (s.setCall c).idx = s.idx := rfl
@[simp] theorem setCall_curAddr (c : Option DriverCall) (s : State) : (s.setCall c).curAddr = s.curAddr := rfl
@[simp] theorem setCall_curRw (c : Option DriverCall) (s : State) : (s.setCall c).curRw = s.curRw := rfl
@[simp] theorem setCall_curLen (c : Option DriverCall) (s : State) : (s.setCall c).curLen = s.curLen := rfl
@[simp] theorem setCall_curCause (c : Option DriverCall) (s : State) : (s.setCall c).curCause = s.curCause := rfl
@[simp] theorem setCall_sclLow (c : Option DriverCall) (s : State) : (s.setCall c).sclLow = s.sclLow := rfl
@[simp] theorem setCall_sdaLow (c : Option DriverCall) (s : State) : (s.setCall c).sdaLow = s.sdaLow := rfl
@[simp] theorem setCall_trace (c : Option DriverCall) (s : State) : (s.setCall c).trace = s.trace := rfl
@[simp] theorem setCall_fault (c : Option DriverCall) (s : State) : (s.setCall c).fault = s.fault := rfl
@[simp] theorem setCall_lines (c : Option DriverCall) (s : State) : (s.setCall c).lines = s.lines := rfl
@[simp] theorem setCall_reply (c : Option DriverCall) (s : State) : (s.setCall c).reply = s.reply := rfl
@[simp] theorem setCall_host (c : Option DriverCall) (s : State) : (s.setCall c).host = { s.host with call := c } := rfl
@[simp] theorem setCall_env (c : Option DriverCall) (s : State) : (s.setCall c).env = s.env := rfl

/-! ### loseSession -/

@[simp] theorem loseSession_cmd (s : State) : (s.loseSession).cmd = s.cmd := rfl
@[simp] theorem loseSession_done (s : State) : (s.loseSession).done = s.done := rfl
@[simp] theorem loseSession_err (s : State) : (s.loseSession).err = s.err := rfl
@[simp] theorem loseSession_cause (s : State) : (s.loseSession).cause = s.cause := rfl
@[simp] theorem loseSession_rxValid (s : State) : (s.loseSession).rxValid = s.rxValid := rfl
@[simp] theorem loseSession_reportValid (s : State) : (s.loseSession).reportValid = s.reportValid := rfl
@[simp] theorem loseSession_txbuf (s : State) : (s.loseSession).txbuf = s.txbuf := rfl
@[simp] theorem loseSession_rxbuf (s : State) : (s.loseSession).rxbuf = s.rxbuf := rfl
@[simp] theorem loseSession_report (s : State) : (s.loseSession).report = s.report := rfl
@[simp] theorem loseSession_phase (s : State) : (s.loseSession).phase = s.phase := rfl
@[simp] theorem loseSession_idx (s : State) : (s.loseSession).idx = s.idx := rfl
@[simp] theorem loseSession_curAddr (s : State) : (s.loseSession).curAddr = s.curAddr := rfl
@[simp] theorem loseSession_curRw (s : State) : (s.loseSession).curRw = s.curRw := rfl
@[simp] theorem loseSession_curLen (s : State) : (s.loseSession).curLen = s.curLen := rfl
@[simp] theorem loseSession_curCause (s : State) : (s.loseSession).curCause = s.curCause := rfl
@[simp] theorem loseSession_sclLow (s : State) : (s.loseSession).sclLow = s.sclLow := rfl
@[simp] theorem loseSession_sdaLow (s : State) : (s.loseSession).sdaLow = s.sdaLow := rfl
@[simp] theorem loseSession_trace (s : State) : (s.loseSession).trace = s.trace := rfl
@[simp] theorem loseSession_fault (s : State) : (s.loseSession).fault = s.fault := rfl
@[simp] theorem loseSession_lines (s : State) : (s.loseSession).lines = s.lines := rfl
@[simp] theorem loseSession_reply (s : State) : (s.loseSession).reply = s.reply := rfl
@[simp] theorem loseSession_host (s : State) : (s.loseSession).host = { s.host with program := s.host.programAfterReset, driver := .uninitialized, call := none, result := if s.host.call = some .readReport then some .notInitialized else s.host.result } := rfl
@[simp] theorem loseSession_env (s : State) : (s.loseSession).env = s.env := rfl

/-! ### blockReset -/

@[simp] theorem blockReset_cmd (s : State) : (s.blockReset).cmd = State.reset.cmd := rfl
@[simp] theorem blockReset_done (s : State) : (s.blockReset).done = State.reset.done := rfl
@[simp] theorem blockReset_err (s : State) : (s.blockReset).err = State.reset.err := rfl
@[simp] theorem blockReset_cause (s : State) : (s.blockReset).cause = State.reset.cause := rfl
@[simp] theorem blockReset_rxValid (s : State) : (s.blockReset).rxValid = State.reset.rxValid := rfl
@[simp] theorem blockReset_reportValid (s : State) : (s.blockReset).reportValid = State.reset.reportValid := rfl
@[simp] theorem blockReset_txbuf (s : State) : (s.blockReset).txbuf = State.reset.txbuf := rfl
@[simp] theorem blockReset_rxbuf (s : State) : (s.blockReset).rxbuf = State.reset.rxbuf := rfl
@[simp] theorem blockReset_report (s : State) : (s.blockReset).report = State.reset.report := rfl
@[simp] theorem blockReset_phase (s : State) : (s.blockReset).phase = State.reset.phase := rfl
@[simp] theorem blockReset_idx (s : State) : (s.blockReset).idx = State.reset.idx := rfl
@[simp] theorem blockReset_curAddr (s : State) : (s.blockReset).curAddr = State.reset.curAddr := rfl
@[simp] theorem blockReset_curRw (s : State) : (s.blockReset).curRw = State.reset.curRw := rfl
@[simp] theorem blockReset_curLen (s : State) : (s.blockReset).curLen = State.reset.curLen := rfl
@[simp] theorem blockReset_curCause (s : State) : (s.blockReset).curCause = State.reset.curCause := rfl
@[simp] theorem blockReset_sclLow (s : State) : (s.blockReset).sclLow = State.reset.sclLow := rfl
@[simp] theorem blockReset_sdaLow (s : State) : (s.blockReset).sdaLow = State.reset.sdaLow := rfl
@[simp] theorem blockReset_trace (s : State) : (s.blockReset).trace = s.trace := rfl
@[simp] theorem blockReset_fault (s : State) : (s.blockReset).fault = s.fault := rfl
@[simp] theorem blockReset_lines (s : State) : (s.blockReset).lines = [released] := rfl
@[simp] theorem blockReset_reply (s : State) : (s.blockReset).reply = s.reply := rfl
@[simp] theorem blockReset_host (s : State) : (s.blockReset).host = s.host := rfl
@[simp] theorem blockReset_env (s : State) : (s.blockReset).env = s.env := rfl

end Sys2Proof.Machine
end

