-- ==== Sys2Proof/Laws/Ops.lean ====
section
/-! SUPPORT. One lemma for each shared operation: what it does in each of its cases. -/

namespace Sys2Proof.Machine

@[simp] theorem busy_eq_true (s : State) : s.busy = true ↔ s.phase ≠ .idle := by simp [State.busy]

@[simp] theorem busy_eq_false (s : State) : s.busy = false ↔ s.phase = .idle := by simp [State.busy]

/-- The fault mark after a host fault: the first reason stays (R157). -/
theorem raise_fault_some (f g : Fault) (s : State) (h : s.fault = some g) : (s.raise f).fault = some g := by simp [h]

theorem raise_fault_none (f : Fault) (s : State) (h : s.fault = none) : (s.raise f).fault = some f := by simp [h]

/-- A guarded read answers or raises (R45 to R47). -/
theorem answerIf_cases (c : Bool) (f : Fault) (w : Word) (s : State) :
    (c = true ∧ s.answerIf c f w = s.answer w) ∨ (c = false ∧ s.answerIf c f w = s.raise f) := by
  cases c <;> simp [State.answerIf]

/-- A guarded write acts or raises (R40, R43). -/
theorem writeIfIdle_cases (f : Fault) (g : State → State) (s : State) :
    (s.phase = .idle ∧ s.writeIfIdle f g = g s.silent) ∨ (s.phase ≠ .idle ∧ s.writeIfIdle f g = s.raise f) := by
  by_cases h : s.phase = .idle
  · exact .inl ⟨h, by simp [State.writeIfIdle, State.busy, h]⟩
  · exact .inr ⟨h, by simp [State.writeIfIdle, State.busy, h]⟩

/-- A CMD write while IDLE (R40). -/
theorem commandWrite_idle (v : Word) (g : State → State) (s : State) (h : s.phase = .idle) :
    s.commandWrite v g = g { s.silent with cmd := v } := by simp [State.commandWrite, State.writeIfIdle, State.busy, h]

/-- A CMD write while BUSY (R40, R158). -/
theorem commandWrite_busy (v : Word) (g : State → State) (s : State) (h : s.phase ≠ .idle) :
    s.commandWrite v g = s.raise .cmdWhileBusy := by simp [State.commandWrite, State.writeIfIdle, State.busy, h]

/-- What an issue does is what the word's class does (R79). -/
theorem issue_cases (v : Word) (s : State) :
    (cmdLegal v = true ∧ cmdRw v = true ∧ issue v s = issueRead (cmdAddr v) (cmdLen v) s)
      ∨ (cmdLegal v = true ∧ cmdRw v = false ∧ issue v s = issueWrite (cmdAddr v) (cmdLen v) s)
      ∨ (cmdLegal v = false ∧ issue v s = issueRejected s) := by
  cases hl : cmdLegal v <;> cases hr : cmdRw v <;> simp [issue, hl, hr]

/-- Completion (R90), field by field. -/
theorem complete_eq (s : State) :
    s.complete = { s with done := true, err := !s.ok, cause := s.curCause, rxValid := s.curRw && s.ok, report := if s.latches then reportOf s.rxbuf else s.report, reportValid := s.reportValid || s.latches, phase := .idle } := by
  cases h : s.latches <;> simp [State.complete, h, State.completeFlags, State.latchReport, State.ok]

/-- The timeout abort (R89), field by field. -/
theorem timeoutAbort_eq (k : Nat) (s : State) :
    timeoutAbort k s = { s with trace := s.trace ++ [.timeoutRelease], sclLow := false, sdaLow := false, lines := (pendingLines s).take k ++ [released], curCause := if s.ok then .timeout else s.curCause, done := true, err := true, cause := if s.ok then .timeout else s.curCause, rxValid := false, phase := .idle } := by
  rw [timeoutAbort, complete_eq]
  by_cases h : s.curCause = .none <;>
    simp [State.latches, State.ok, State.noteTimeout, State.release, State.emit, endSetting, released, h]

/-- Everything a request can do: run the instruction it decodes to, or record a host fault. -/
theorem perform_cases (r : Request) (s : State) :
    (∃ i, decode r = .ok i ∧ perform r s = exec i s) ∨ (∃ e, decode r = .error e ∧ perform r s = .next (s.raise (faultOfDecode e))) := by
  unfold perform
  cases h : decode r with
  | ok i => exact .inl ⟨i, rfl, rfl⟩
  | error e => exact .inr ⟨e, rfl, rfl⟩

/-- Everything an engine step can do (R83): nothing while IDLE, the timeout abort, or the phase's own step. -/
theorem engineStep_cases (d : Draw) (s : State) :
    (s.phase = .idle ∧ engineStep d s = s)
      ∨ (s.phase ≠ .idle ∧ d.timeout = true ∧ engineStep d s = timeoutAbort d.abortAt s)
      ∨ (d.timeout = false ∧ s.phase = .start ∧ engineStep d s = stepStart s)
      ∨ (d.timeout = false ∧ s.phase = .addr ∧ engineStep d s = stepAddr d.ack s)
      ∨ (d.timeout = false ∧ s.phase = .wdata ∧ engineStep d s = stepWdata d.ack s)
      ∨ (d.timeout = false ∧ s.phase = .rdata ∧ engineStep d s = stepRdata d.byte s)
      ∨ (d.timeout = false ∧ s.phase = .stop ∧ engineStep d s = stepStop s) := by
  cases hp : s.phase <;> cases ht : d.timeout <;> simp [engineStep, phaseStep, State.busy, hp, ht]

/-- The record of a symbol's settings ends where the drivers are left. -/
theorem symbolLines_last (y : Symbol) :
    (symbolLines y).getLast?.map (fun l => (l.sclLow, l.sdaLow)) = some ((endSetting y).sclLow, (endSetting y).sdaLow) := by
  cases y with
  | s => rfl
  | tx b a => simp [symbolLines, txLines, recvBitLines, endSetting]
  | rx b a => cases a <;> rfl
  | p => rfl
  | timeoutRelease => rfl

/-- Everything a step can do: one move of the agent whose turn it is. -/
theorem step_cases (s : State) :
    (s.turn = .host ∧ step s = hostStep s.passTurn) ∨ (s.turn = .engine ∧ step s = .next (engineMove s).passTurn)
      ∨ (s.turn = .reset ∧ step s = .next (resetMove s.passTurn)) := by
  unfold step
  cases s.turn <;> simp

/-- A host move takes the first operation of the program (R54). -/
theorem hostStep_cons (s : State) (op : HostOp) (rest : List HostOp) (h : s.host.program = op :: rest) :
    hostStep s = hostOp op s.popOp := by simp [hostStep, h]

/-- What `onNext` does. -/
theorem onNext_next (f : State → State) (s : State) : onNext f (.next s) = .next (f s) := rfl

end Sys2Proof.Machine
end

