-- ==== Sys2Proof/Laws/Moves.lean ====
section
/-! SUPPORT. What one instruction, one engine step and one host move can do, said once, for the invariants to cite. -/

namespace Sys2Proof.Machine

/-! ### Instructions -/

/-- A guarded read changes only the reply and the fault mark. -/
theorem answerIf_sameButReply (c : Bool) (f : Fault) (w : Word) (s : State) : SameButReply s (s.answerIf c f w) := by cases c <;> rfl

/-- A command write's start on the idle block, field by field. -/
theorem commandWrite_silent (v : Word) (g : State → State) (s : State) :
    (s.phase = .idle ∧ s.commandWrite v g = g { s with cmd := v, reply := none }) ∨ (s.phase ≠ .idle ∧ SameButReply s (s.commandWrite v g)) := by
  by_cases h : s.phase = .idle
  · exact .inl ⟨h, commandWrite_idle v g s h⟩
  · exact .inr ⟨h, by rw [commandWrite_busy v g s h]; rfl⟩

/-- Everything an instruction can do to the state: at most the reply and the fault mark change, or the block was IDLE and TXBUF was
written, a command was accepted (with the word's own fields, or those of the CMD row), or a word was rejected. -/
theorem exec_cases (i : Instr) (s t : State) (h : exec i s = .next t) :
    SameButReply s t
      ∨ (s.phase = .idle ∧ ∃ v b, (i = .wrTxdata0 v ∨ i = .wrTxdata1 v) ∧ t = { s with txbuf := b, reply := none })
      ∨ (s.phase = .idle ∧ ∃ v addr len, (i = .write addr len ∨ lenOk len = true) ∧ t = issueWrite addr len { s with cmd := v, reply := none })
      ∨ (s.phase = .idle ∧ ∃ v addr len, (i = .read addr len ∨ lenOk len = true) ∧ t = issueRead addr len { s with cmd := v, reply := none })
      ∨ (s.phase = .idle ∧ ∃ v, t = issueRejected { s with cmd := v, reply := none }) := by
  cases i with
  | write addr len =>
    cases h
    rcases commandWrite_silent (cmdWord false addr len) (issueWrite addr len) s with ⟨hp, e⟩ | ⟨_, e⟩
    · exact .inr (.inr (.inl ⟨hp, _, addr, len, .inl rfl, e⟩))
    · exact .inl e
  | read addr len =>
    cases h
    rcases commandWrite_silent (cmdWord true addr len) (issueRead addr len) s with ⟨hp, e⟩ | ⟨_, e⟩
    · exact .inr (.inr (.inr (.inl ⟨hp, _, addr, len, .inl rfl, e⟩)))
    · exact .inl e
  | cmdRejected v =>
    cases h
    rcases commandWrite_silent v issueRejected s with ⟨hp, e⟩ | ⟨_, e⟩
    · exact .inr (.inr (.inr (.inr ⟨hp, v, e⟩)))
    · exact .inl e
  | wrCmd v =>
    cases h
    rcases commandWrite_silent v (issue v) s with ⟨hp, e⟩ | ⟨_, e⟩
    · have ok : cmdLegal v = true → lenOk (cmdLen v) = true := fun hl => (lenOk_iff _).2 ((cmdLegal_iff v).1 hl).2
      rw [e]
      rcases issue_cases v { s with cmd := v, reply := none } with ⟨hl, _, e⟩ | ⟨hl, _, e⟩ | ⟨_, e⟩ <;> rw [e]
      · exact .inr (.inr (.inr (.inl ⟨hp, v, _, _, .inr (ok hl), rfl⟩)))
      · exact .inr (.inr (.inl ⟨hp, v, _, _, .inr (ok hl), rfl⟩))
      · exact .inr (.inr (.inr (.inr ⟨hp, v, rfl⟩)))
    · exact .inl e
  | wrTxdata0 v =>
    cases h
    rcases writeIfIdle_cases .txWhileBusy (fun t => { t with txbuf := t.txbuf.setLow v }) s with ⟨hp, e⟩ | ⟨_, e⟩ <;> rw [e]
    · exact .inr (.inl ⟨hp, v, s.txbuf.setLow v, .inl rfl, rfl⟩)
    · exact .inl rfl
  | wrTxdata1 v =>
    cases h
    rcases writeIfIdle_cases .txWhileBusy (fun t => { t with txbuf := t.txbuf.setHigh v }) s with ⟨hp, e⟩ | ⟨_, e⟩ <;> rw [e]
    · exact .inr (.inl ⟨hp, v, s.txbuf.setHigh v, .inr rfl, rfl⟩)
    · exact .inl rfl
  | rdRxdata0 => cases h; exact .inl (answerIf_sameButReply _ _ _ _)
  | rdRxdata1 => cases h; exact .inl (answerIf_sameButReply _ _ _ _)
  | rdReport0 => cases h; exact .inl (answerIf_sameButReply _ _ _ _)
  | rdReport1 => cases h; exact .inl (answerIf_sameButReply _ _ _ _)
  | rdDecAnalog => cases h; exact .inl (answerIf_sameButReply _ _ _ _)
  | rdDecAccel => cases h; exact .inl (answerIf_sameButReply _ _ _ _)
  | rdDecButtons => cases h; exact .inl (answerIf_sameButReply _ _ _ _)
  | rdCmd => cases h; exact .inl rfl
  | rdStatus => cases h; exact .inl rfl
  | rdTxdata0 => cases h; exact .inl rfl
  | rdTxdata1 => cases h; exact .inl rfl
  | wrReadOnly r v => cases h; exact .inl rfl

/-! ### The host -/

/-- What went before a next state through `onNext`. -/
theorem onNext_eq_next (f : State → State) (o : Host.Outcome State Fault Refusal) (t : State) (h : onNext f o = .next t) :
    ∃ u, o = .next u ∧ t = f u := by
  cases o with
  | next u => exact ⟨u, rfl, by simpa [onNext] using h.symm⟩
  | fault r => simp [onNext] at h
  | refused r => simp [onNext] at h

/-- Keeping a reply changes only the host's locals. -/
theorem keepReply_eq (x : HostVar) (s : State) : s.keepReply x = { s with host := { s.host with vars := (s.keepReply x).host.vars } } := by
  simp only [State.keepReply]
  split <;> rfl

/-- POLL changes only the host's program. -/
theorem pollAgain_eq (s : State) : s.pollAgain = { s with host := { s.host with program := s.pollAgain.host.program } } := by
  simp only [State.pollAgain]
  split
  · split <;> rfl
  · rfl

/-- A register's read, performed, is its instruction. -/
theorem perform_readOf (r : Reg) (s : State) : perform (readOf r) s = exec (readInstr r) s := by
  simp only [perform, readOf, decode_mapped, regInstr]

/-- A step on the host's turn runs the first operation of its program. -/
theorem step_host (s : State) (op : HostOp) (rest : List HostOp) (ht : s.turn = .host) (hp : s.host.program = op :: rest) :
    step s = hostOp op s.passTurn.popOp := by
  rcases step_cases s with ⟨_, hs⟩ | ⟨he, _⟩ | ⟨hr, _⟩
  · rw [hs]; exact hostStep_cons _ _ rest hp
  · simp [ht] at he
  · simp [ht] at hr

/-- An operation that makes no access changes nothing but the host, keeps its locals, and puts nothing in front of the program. -/
theorem hostOp_noAccess (op : HostOp) (s : State) (h : opAccesses op s.host = false) :
    hostOp op s = .next (afterOp op s) ∧ afterOp op s = { s with host := (afterOp op s).host }
      ∧ (afterOp op s).host.vars = s.host.vars ∧ (afterOp op s).host.program = s.host.program := by
  cases op with
  | request r => cases h
  | load x r => cases h
  | poll => cases h
  | runInitialize => cases h
  | loadIfOk x r =>
    have h : statusErr s.host.vars.s1 = true := by simpa [opAccesses] using h
    simp [afterOp, hostOp, h]
  | readReport =>
    have h : ¬ s.host.driver = .ready := by simpa [opAccesses] using h
    simp [afterOp, hostOp, State.callReadReport, h, State.setResult]
  | enterHandshaking => exact ⟨rfl, rfl, rfl, rfl⟩
  | enterReady =>
    refine ⟨rfl, ?_, ?_, ?_⟩ <;> simp only [afterOp, hostOp, State.finishInitialize] <;> split <;> rfl
  | finishReport => exact ⟨rfl, rfl, rfl, rfl⟩

/-- Whether an access is left depends on the driver state and the locals only. -/
theorem accessLeft_congr (ops : List HostOp) (s t : State) (hd : s.host.driver = t.host.driver) (hv : s.host.vars = t.host.vars) :
    accessLeft ops s = accessLeft ops t := by
  induction ops generalizing s t with
  | nil => rfl
  | cons op ops ih =>
    have e : opAccesses op s.host = opAccesses op t.host := by cases op <;> simp [opAccesses, hd, hv]
    simp only [accessLeft, e]
    cases h : opAccesses op t.host with
    | true => rfl
    | false =>
      have hv' : (afterOp op s).host.vars = (afterOp op t).host.vars := by
        rw [(hostOp_noAccess op s (e.trans h)).2.2.1, (hostOp_noAccess op t h).2.2.1, hv]
      have hd' : (afterOp op s).host.driver = (afterOp op t).host.driver := by
        cases op with
        | request r => cases h
        | load x r => cases h
        | poll => cases h
        | runInitialize => cases h
        | enterHandshaking => rfl
        | finishReport => exact hd
        | loadIfOk x r =>
          have h : statusErr t.host.vars.s1 = true := by simpa [opAccesses] using h
          simp [afterOp, hostOp, hv, h, hd]
        | readReport =>
          have h : ¬ t.host.driver = .ready := by simpa [opAccesses] using h
          simp [afterOp, hostOp, State.callReadReport, h, hd, State.setResult]
        | enterReady => simp only [afterOp, hostOp, State.finishInitialize, hd]; split <;> simp [State.setCall, State.setDriver, hd]
      simpa using ih _ _ hd' hv'

/-- After the last access the host's moves touch nothing but the host, and no access comes any more (R149). -/
theorem hostStep_noAccessLeft (s : State) (h : accessLeft s.host.program s = false) :
    ∃ t, hostStep s = .next t ∧ t = { s with host := t.host } ∧ accessLeft t.host.program t = false := by
  unfold hostStep
  split
  · exact ⟨s, rfl, rfl, h⟩
  · next op ops hp =>
    rw [hp] at h
    obtain ⟨ha, hl⟩ : opAccesses op s.popOp.host = false ∧ accessLeft ops (afterOp op s.popOp) = false := by
      rw [accessLeft_congr _ s s.popOp rfl rfl] at h
      simpa [accessLeft] using h
    obtain ⟨h1, h2, -, h4⟩ := hostOp_noAccess op s.popOp ha
    exact ⟨_, h1, by rw [h2]; rfl, by rw [h4]; simpa [State.popOp, hp] using hl⟩

/-! ### The engine -/

/-- What no engine step touches. -/
theorem engineStep_frame (d : Draw) (s : State) :
    (engineStep d s).fault = s.fault ∧ (engineStep d s).txbuf = s.txbuf ∧ (engineStep d s).host = s.host ∧ (engineStep d s).env = s.env
      ∧ (engineStep d s).cmd = s.cmd ∧ (engineStep d s).reply = s.reply ∧ (engineStep d s).curRw = s.curRw
      ∧ (engineStep d s).curLen = s.curLen ∧ (engineStep d s).curAddr = s.curAddr := by
  rcases engineStep_cases d s with ⟨_, h⟩ | ⟨_, _, h⟩ | ⟨_, _, h⟩ | ⟨_, _, h⟩ | ⟨_, _, h⟩ | ⟨_, _, h⟩ | ⟨_, _, h⟩ <;> rw [h]
  · simp
  · rw [timeoutAbort_eq]; simp
  · exact ⟨rfl, rfl, rfl, rfl, rfl, rfl, rfl, rfl, rfl⟩
  · cases d.ack <;> exact ⟨rfl, rfl, rfl, rfl, rfl, rfl, rfl, rfl, rfl⟩
  · cases d.ack
    · simp only [stepWdata, State.nextByte]
      split <;> exact ⟨rfl, rfl, rfl, rfl, rfl, rfl, rfl, rfl, rfl⟩
    · exact ⟨rfl, rfl, rfl, rfl, rfl, rfl, rfl, rfl, rfl⟩
  · simp only [stepRdata, State.nextByte]
    split <;> exact ⟨rfl, rfl, rfl, rfl, rfl, rfl, rfl, rfl, rfl⟩
  · simp only [stepStop, complete_eq]
    exact ⟨rfl, rfl, rfl, rfl, rfl, rfl, rfl, rfl, rfl⟩

/-- No engine step while IDLE (R83). -/
theorem engineStep_idle (d : Draw) (s : State) (h : s.phase = .idle) : engineStep d s = s := by simp [engineStep, State.busy, h]

/-- A completed command stays completed however long the engine is given (R83). -/
theorem engineRun_idle (ds : List Draw) (s : State) (h : s.phase = .idle) : engineRun ds s = s := by
  induction ds with
  | nil => rfl
  | cons d ds ih => rw [engineRun, engineStep_idle d s h, ih]

end Sys2Proof.Machine
end

