-- ==== Sys2Proof/Laws/PerInstr.lean ====
section
/-! SUPPORT. The family InWindow: a well-formed instruction is encoded as a CMD word or as an aligned 32-bit access to a mapped register of the window (R34, R35, R52). -/

namespace Sys2Proof.Laws.InWindow

/-- The request is a CMD word, or an aligned 32-bit access to a mapped offset. -/
def inWindow : Request → Bool
  | .command _ => true
  | .access a => a.aligned && (regAt a.offset).isSome

/-- The statement about one instruction. -/
def Statement (i : Instr) : Prop := WellFormed i = true → inWindow (encode i) = true

theorem access_inWindow (r : Reg) (d : AccessDir) : inWindow (.access ⟨r.offset, 4, d⟩) = true := by
  simp [inWindow, HostAccess.aligned, offset_aligned]

theorem write (addr : BitVec 7) (len : BitVec 4) : Statement (.write addr len) := fun _ => rfl
theorem read (addr : BitVec 7) (len : BitVec 4) : Statement (.read addr len) := fun _ => rfl
theorem cmdRejected (v : Word) : Statement (.cmdRejected v) := fun _ => rfl
theorem wrCmd (v : Word) : Statement (.wrCmd v) := fun _ => access_inWindow .cmd (.write v)
theorem rdCmd : Statement .rdCmd := fun _ => access_inWindow .cmd .read
theorem rdStatus : Statement .rdStatus := fun _ => access_inWindow .status .read
theorem wrTxdata0 (v : Word) : Statement (.wrTxdata0 v) := fun _ => access_inWindow .txdata0 (.write v)
theorem wrTxdata1 (v : Word) : Statement (.wrTxdata1 v) := fun _ => access_inWindow .txdata1 (.write v)
theorem rdTxdata0 : Statement .rdTxdata0 := fun _ => access_inWindow .txdata0 .read
theorem rdTxdata1 : Statement .rdTxdata1 := fun _ => access_inWindow .txdata1 .read
theorem rdRxdata0 : Statement .rdRxdata0 := fun _ => access_inWindow .rxdata0 .read
theorem rdRxdata1 : Statement .rdRxdata1 := fun _ => access_inWindow .rxdata1 .read
theorem rdReport0 : Statement .rdReport0 := fun _ => access_inWindow .report0 .read
theorem rdReport1 : Statement .rdReport1 := fun _ => access_inWindow .report1 .read
theorem rdDecAnalog : Statement .rdDecAnalog := fun _ => access_inWindow .decAnalog .read
theorem rdDecAccel : Statement .rdDecAccel := fun _ => access_inWindow .decAccel .read
theorem rdDecButtons : Statement .rdDecButtons := fun _ => access_inWindow .decButtons .read
theorem wrReadOnly (r : Reg) (v : Word) : Statement (.wrReadOnly r v) := fun _ => access_inWindow r (.write v)

end Sys2Proof.Laws.InWindow
end

