-- ==== Sys2Proof/Laws/Sampling.lean ====
section
/-! SUPPORT. What a line sequence run against the target can do (R100, R106, R110), and what a reset leaves of the host's program (R175). -/

namespace Sys2Proof.Machine

/-! ### The line sequences -/

/-- A wait ends only with SCL high (R106). -/
theorem settle_waits (l : LineStep) (looks : List Look) (k : Look) (hw : l.waitScl = true) (h : l.settle looks = some k) :
    sclIn l.sclLow k.pullsScl = true := by
  rw [LineStep.settle, if_pos hw] at h
  simpa using List.find?_some h

@[simp] theorem after_applied (l : LineStep) (k : Look) (r : LineRun) : (r.after l k).applied = l :: r.applied := rfl
@[simp] theorem after_expired (l : LineStep) (k : Look) (r : LineRun) : (r.after l k).expired = r.expired := rfl
@[simp] theorem after_samples (l : LineStep) (k : Look) (r : LineRun) :
    (r.after l k).samples = if l.sample then sdaIn l.sdaLow k.pullsSda :: r.samples else r.samples := rfl

/-- A setting whose look is found is applied before the rest of the sequence. -/
theorem runLines_some (pull : Bool) (l : LineStep) (ls : List LineStep) (looks : List (List Look)) (k : Look)
    (h : l.settle (looks.headD [Look.free]) = some k) : runLines pull (l :: ls) looks = (runLines k.pullsScl ls looks.tail).after l k := by
  rw [runLines]; simp only [h]

/-- A wait in which the timeout expires is the end of the sequence. -/
theorem runLines_none (pull : Bool) (l : LineStep) (ls : List LineStep) (looks : List (List Look))
    (h : l.settle (looks.headD [Look.free]) = none) :
    runLines pull (l :: ls) looks = ⟨[l], [], true, ((looks.headD [Look.free]).getLastD Look.free).pullsScl⟩ := by
  rw [runLines]; simp only [h]

/-- The settings applied are the first ones of the sequence: all of them unless the timeout expired, and if it did, up to a wait. -/
theorem runLines_applied (pull : Bool) (ls : List LineStep) (looks : List (List Look)) :
    (runLines pull ls looks).applied <+: ls ∧ ((runLines pull ls looks).expired = false → (runLines pull ls looks).applied = ls)
      ∧ ((runLines pull ls looks).expired = true → ∃ l, (runLines pull ls looks).applied.getLast? = some l ∧ l.waitScl = true) := by
  induction ls generalizing pull looks with
  | nil => exact ⟨List.prefix_rfl, fun _ => rfl, fun h => by cases h⟩
  | cons l ls ih =>
    cases hk : l.settle (looks.headD [Look.free]) with
    | none =>
      rw [runLines_none _ _ _ _ hk]
      refine ⟨by simp, (fun h => by cases h), fun _ => ⟨l, rfl, ?_⟩⟩
      cases hw : l.waitScl
      · simp [LineStep.settle, hw] at hk
      · rfl
    | some k =>
      rw [runLines_some _ _ _ _ _ hk]
      obtain ⟨h1, h2, h3⟩ := ih k.pullsScl looks.tail
      refine ⟨by simpa using h1, fun h => by simpa using h2 h, fun h => ?_⟩
      obtain ⟨m, hm, hw⟩ := h3 h
      exact ⟨m, by simp [List.getLast?_cons, hm], hw⟩

/-- A sequence run to its end samples once at each of its sampling points (R105). -/
theorem runLines_samples (pull : Bool) (ls : List LineStep) (looks : List (List Look)) (h : (runLines pull ls looks).expired = false) :
    (runLines pull ls looks).samples.length = (ls.filter (·.sample)).length := by
  induction ls generalizing pull looks with
  | nil => rfl
  | cons l ls ih =>
    cases hk : l.settle (looks.headD [Look.free]) with
    | none => rw [runLines_none _ _ _ _ hk] at h; cases h
    | some k =>
      rw [runLines_some _ _ _ _ _ hk] at h ⊢
      have := ih k.pullsScl looks.tail h
      cases hs : l.sample <;> simp [hs, this]

/-- What a step's line run applies is the start of the phase's sequence, and all of it unless the timeout expired. -/
theorem lineRun_applied (w : TargetLine) (s : State) :
    (lineRun w s).applied <+: pendingLines s ∧ ((lineRun w s).expired = false → (lineRun w s).applied = pendingLines s) := by
  unfold lineRun
  split
  · exact ⟨List.nil_prefix, fun h => by cases h⟩
  · exact ⟨(runLines_applied _ _ _).1, (runLines_applied _ _ _).2.1⟩

/-- A timeout strikes in a wait (R106). -/
theorem lineRun_expires_atWait (w : TargetLine) (s : State) (h : (lineRun w s).expired = true) :
    AtWait s (lineRun w s).applied.length := by
  unfold lineRun at h ⊢
  split
  · next hs => exact .inl ⟨hs.1, rfl⟩
  · next hs =>
    rw [if_neg hs] at h
    obtain ⟨hp, -, hl⟩ := runLines_applied false (pendingLines s) w.settings
    obtain ⟨l, hl, hw⟩ := hl h
    generalize runLines false (pendingLines s) w.settings = r at *
    obtain ⟨n, hn⟩ : ∃ n, r.applied.length = n + 1 :=
      Nat.exists_eq_succ_of_ne_zero (fun h0 => by rw [List.length_eq_zero_iff.1 h0] at hl; cases hl)
    refine .inr ⟨l, by omega, ?_, hw⟩
    rw [List.getLast?_eq_getElem?] at hl
    obtain ⟨t, ht⟩ := hp
    rw [← ht, List.getElem?_append_left (by omega), hl]

/-! ### The host's program after a reset -/

/-- Without a session and without a call in progress the program stays. -/
theorem programAfterReset_noSession (h : HostAgent) (hd : h.driver = .uninitialized) (hc : h.call = none) :
    h.programAfterReset = h.program := by simp [HostAgent.programAfterReset, HostAgent.hasSession, hd, hc]

/-- A host between two calls keeps its program, `initialize()` before it. -/
theorem programAfterReset_betweenCalls (h : HostAgent) (hd : h.driver ≠ .uninitialized) (hc : h.call = none) :
    h.programAfterReset = .runInitialize :: h.program := by
  simp [HostAgent.programAfterReset, HostAgent.hasSession, HostAgent.abandonCall, hd, hc]

/-- A call cut off by the reset is taken out of the program. -/
theorem programAfterReset_inCall (h : HostAgent) (c : DriverCall) (body rest : List HostOp) (last : HostOp) (hc : h.call = some c)
    (hp : h.program = body ++ last :: rest) (hb : ∀ op ∈ body, endsCall op = false) (hl : endsCall last = true) :
    h.programAfterReset = .runInitialize :: rest := by
  have : (h.program.dropWhile (fun op => !endsCall op)) = last :: rest := by
    rw [hp, List.dropWhile_append_of_pos (by simpa using hb)]
    simp [hl]
  simp [HostAgent.programAfterReset, HostAgent.hasSession, HostAgent.abandonCall, hc, this]

end Sys2Proof.Machine
end

