-- ==== Sys2Proof/Tests/Slice0.lean ====
section
/-! SUPPORT. Tests: ill-formed terms are refused; words and accesses written out from the spec decode to what they stand for; single steps with the results of spec/95_test_vectors.md; and for every statement with hypotheses a witness that meets them. -/

open Sys2Proof Sys2Proof.Machine

/-! ### Helpers -/

/-- The state a next outcome holds. -/
def Sys2Proof.Tests.nextOf (o : Host.Outcome State Machine.Fault Machine.Refusal) : State :=
  match o with
  | .next s => s
  | .fault _ => State.reset
  | .refused _ => State.reset

/-- A target that acknowledges a byte: it pulls SDA whenever the block looks, and never SCL. -/
def Sys2Proof.Tests.acking : TargetLine := ⟨[⟨false, false⟩], List.replicate 27 [⟨false, true⟩]⟩

/-- A target that sends `5A`, the first bit in the first clock. -/
def Sys2Proof.Tests.sending5A : TargetLine :=
  ⟨[], [false, true, false, true, true, false, true, false].flatMap (fun d => [[], [⟨false, !d⟩], []])⟩

/-- A target that leaves the bus idle and then never releases SCL in the first wait. -/
def Sys2Proof.Tests.holding : TargetLine := ⟨[⟨false, false⟩], [[], [⟨true, false⟩, ⟨true, false⟩]]⟩

/-- A command in flight at a phase, at payload index `i` of `n`; the engine moves next, and the target acknowledges. -/
def Sys2Proof.Tests.flying (p : Phase) (rw : Bool) (i : BitVec 3) (n : BitVec 4) : State :=
  { State.reset with phase := p, curAddr := 0x52, curRw := rw, curLen := n, idx := i, sclLow := decide (p ≠ .start), env := ⟨[.engine], [acking], 0⟩ }

/-- A state with the source's end-to-end report latched (95_test_vectors.md section 1.7). -/
def Sys2Proof.Tests.latched : State := { State.reset with report := ⟨0x0A, 0x14, 0x1E, 0x28, 0x32, 0x00⟩, reportValid := true }

/-- A state after a successful READ of `01 .. 08`. -/
def Sys2Proof.Tests.received : State :=
  { State.reset with rxbuf := ⟨1, 2, 3, 4, 5, 6, 7, 8⟩, rxValid := true, done := true, curRw := true, curLen := 8 }

/-- A draw without a timeout. -/
def Sys2Proof.Tests.answered (a : Ack) (b : Byte) : Draw := ⟨false, a, b, 0⟩

/-- A draw with a timeout. -/
def Sys2Proof.Tests.timedOut : Draw := ⟨true, .nack, 0, 2⟩

/-- Reset with a turn and a host program lined up. -/
def Sys2Proof.Tests.hosted (ops : List HostOp) : State :=
  { State.reset with host := { State.reset.host with program := ops }, env := ⟨[.host], [], 0⟩ }

open Sys2Proof.Tests

/-! ### Ill-formed instructions -/

theorem test_write_len0_is_ill_formed : WellFormed (.write 0x52 0) = false := by decide
theorem test_write_len9_is_ill_formed : WellFormed (.write 0x52 9) = false := by decide
theorem test_read_len0_is_ill_formed : WellFormed (.read 0x52 0) = false := by decide
theorem test_read_len15_is_ill_formed : WellFormed (.read 0x52 15) = false := by decide
theorem test_rejected_legal_word_is_ill_formed : WellFormed (.cmdRejected 0x152) = false := by decide
theorem test_ignored_write_of_a_writable_register_is_ill_formed :
    WellFormed (.wrReadOnly .cmd 0) = false ∧ WellFormed (.wrReadOnly .txdata0 0) = false ∧ WellFormed (.wrReadOnly .txdata1 0) = false := by
  decide

/-! ### Decoding: words written out bit by bit (30_encoding.md R61; 95_test_vectors.md section 2) -/

theorem test_decode_write : decode (.command 0b00000000000000000000_0010_0_1010010) = .ok (.write 0x52 2) := by decide
theorem test_decode_read : decode (.command 0b00000000000000000000_0110_1_1010010) = .ok (.read 0x52 6) := by decide
theorem test_decode_rejected_len : decode (.command 0b00000000000000000000_1001_0_1010010) = .ok (.cmdRejected 0x952) := by decide
theorem test_decode_rejected_rsv12 : decode (.command 0b00000000000000000001_0001_0_1010010) = .ok (.cmdRejected 0x1152) := by decide
theorem test_decode_rejected_rsv31 : decode (.command 0b10000000000000000000_0110_0_1010010) = .ok (.cmdRejected 0x80000652) := by decide
theorem test_decode_access : decode (.access ⟨0b100100, 4, .read⟩) = .ok .rdDecAccel := by decide
theorem test_decode_ignored_write : decode (.access ⟨0b000100, 4, .write 0xFFFFFFFF⟩) = .ok (.wrReadOnly .status 0xFFFFFFFF) := by decide
/-- The alignment check comes before the map (95_test_vectors.md section 6). -/
theorem test_decode_bad_access :
    decode (.access ⟨0x30, 2, .read⟩) = .error .badAccess ∧ decode (.access ⟨0x02, 4, .read⟩) = .error .badAccess
      ∧ decode (.access ⟨0x04, 1, .read⟩) = .error .badAccess := by decide
theorem test_decode_unmapped :
    decode (.access ⟨0x2C, 4, .read⟩) = .error .unmapped ∧ decode (.access ⟨0x40, 4, .write 0⟩) = .error .unmapped := by decide
/-- The words of the device protocol (R131) and of `I2C.WRITE 0x52, [01, 02, 03, 04, 05]` (95_test_vectors.md section 4). -/
theorem test_protocol_words :
    cmdWord false devAddr 2 = 0x252 ∧ cmdWord false devAddr 1 = 0x152 ∧ cmdWord true devAddr 6 = 0x6D2
      ∧ payloadWord handshake1 0 = 0x55F0 ∧ payloadWord handshake2 0 = 0xFB
      ∧ payloadWord [1, 2, 3, 4, 5] 0 = 0x04030201 ∧ payloadWord [1, 2, 3, 4, 5] 4 = 5 := by decide
/-- A table row of 32 bits is a CMD word, a shorter one the read of its offset. -/
theorem test_decode_table : decodeTableWord 32 0x6D2 = some (.read 0x52 6) ∧ decodeTableWord 8 0x04 = some .rdStatus := by decide

/-! ### Instructions, one step each (95_test_vectors.md sections 3 to 7) -/

theorem test_write_issue : (nextOf (exec (.write 0x52 2) State.reset)).phase = .start ∧ (nextOf (exec (.write 0x52 2) State.reset)).cmd = 0x252 := by
  decide
theorem test_write_busy_faults : (nextOf (exec (.write 0x52 2) (flying .wdata false 0 2))).fault = some .cmdWhileBusy := by decide
theorem test_read_issue : (nextOf (exec (.read 0x52 6) received)).rxbuf = Buf.zero ∧ (nextOf (exec (.read 0x52 6) received)).rxValid = false := by
  decide
theorem test_rejected_status : statusWord (nextOf (exec (.cmdRejected 0x52) State.reset)) = 0x46 := by decide
theorem test_rejected_keeps_report : statusWord (nextOf (exec (.cmdRejected 0x952) latched)) = 0x246 := by decide
theorem test_wrCmd_rejects : (nextOf (exec (.wrCmd 0x80000652) received)).rxValid = false ∧ (nextOf (exec (.wrCmd 0x80000652) received)).cmd = 0x80000652 := by
  decide
theorem test_wrCmd_busy_comes_first : (nextOf (exec (.wrCmd 0x52) (flying .start false 0 2))).fault = some .cmdWhileBusy := by decide
theorem test_rdCmd : (nextOf (exec .rdCmd { State.reset with cmd := 0x52 })).reply = some 0x52 := by decide
theorem test_rdStatus_busy : (nextOf (exec .rdStatus (flying .addr true 0 6))).reply = some 1 := by decide
theorem test_rdStatus_timeout : (nextOf (exec .rdStatus { latched with done := true, err := true, cause := .timeout })).reply = some 0x236 := by decide
theorem test_wrTxdata0 : (nextOf (exec (.wrTxdata0 0x55F0) State.reset)).txbuf = ⟨0xF0, 0x55, 0, 0, 0, 0, 0, 0⟩ := by decide
theorem test_wrTxdata1 : (nextOf (exec (.wrTxdata1 0x08070605) State.reset)).txbuf = ⟨0, 0, 0, 0, 5, 6, 7, 8⟩ := by decide
theorem test_wrTxdata0_busy : (nextOf (exec (.wrTxdata0 0) (flying .stop false 0 2))).fault = some .txWhileBusy := by decide
theorem test_rdTxdata0 : (nextOf (exec .rdTxdata0 { State.reset with txbuf := ⟨0xF0, 0x55, 0x11, 0x22, 0, 0, 0, 0⟩ })).reply = some 0x221155F0 := by decide
theorem test_rdTxdata1 : (nextOf (exec .rdTxdata1 { State.reset with txbuf := ⟨0, 0, 0, 0, 5, 6, 7, 8⟩ })).reply = some 0x08070605 := by decide
theorem test_rdRxdata0 : (nextOf (exec .rdRxdata0 received)).reply = some 0x04030201 := by decide
theorem test_rdRxdata0_reset : (nextOf (exec .rdRxdata0 State.reset)).fault = some .rxNotValid := by decide
theorem test_rdRxdata1 : (nextOf (exec .rdRxdata1 received)).reply = some 0x08070605 := by decide
theorem test_rdReport0 : (nextOf (exec .rdReport0 latched)).reply = some 0x281E140A := by decide
theorem test_rdReport0_reset : (nextOf (exec .rdReport0 State.reset)).fault = some .reportNotValid := by decide
theorem test_rdReport1 : (nextOf (exec .rdReport1 latched)).reply = some 0x00000032 := by decide
theorem test_rdDecAnalog : (nextOf (exec .rdDecAnalog latched)).reply = some 0x0000140A := by decide
theorem test_rdDecAccel : (nextOf (exec .rdDecAccel latched)).reply = some 0x0C828078 := by decide
theorem test_rdDecAccel_mixed :
    (nextOf (exec .rdDecAccel { latched with report := ⟨0x80, 0x7F, 0x01, 0x80, 0xFE, 0xE4⟩ })).reply = some 0x3FB80805 := by decide
theorem test_rdDecButtons : (nextOf (exec .rdDecButtons latched)).reply = some 3 := by decide
theorem test_rdDecButtons_inverted : (nextOf (exec .rdDecButtons { latched with report := ⟨0, 0, 0, 0, 0, 1⟩ })).reply = some 1 := by decide
theorem test_wrReadOnly : nextOf (exec (.wrReadOnly .status 0xFFFFFFFF) latched) = latched := by decide

/-! ### Engine steps and the decoder (95_test_vectors.md sections 4, 5, 7 and 8) -/

theorem test_addr_nack : (engineStep (answered .nack 0) (flying .addr false 0 2)).trace = [.tx 0xA4 .nack]
    ∧ (engineStep (answered .nack 0) (flying .addr false 0 2)).curCause = .addrNack := by decide
theorem test_addr_read : (engineStep (answered .ack 0) (flying .addr true 0 6)).trace = [.tx 0xA5 .ack] := by decide
/-- A NACK of the last byte is a failure like any other (D12). -/
theorem test_wdata_last_nack : (engineStep (answered .nack 0) (flying .wdata false 1 2)).curCause = .dataNack := by decide
/-- The block answers NACK to the last byte and ACK before it (R87). -/
theorem test_rdata_acks : (engineStep (answered .ack 0x5A) (flying .rdata true 0 1)).trace = [.rx 0x5A .nack]
    ∧ (engineStep (answered .nack 0x11) (flying .rdata true 0 2)).trace = [.rx 0x11 .ack] := by decide
/-- Six bytes latch the report and eight do not (R90). -/
theorem test_stop_latches : statusWord (engineStep (answered .ack 0) (flying .stop true 5 6)) = 0x302
    ∧ statusWord (engineStep (answered .ack 0) (flying .stop true 7 8)) = 0x102 := by decide
theorem test_timeout_status : statusWord (engineStep timedOut (flying .rdata true 3 6)) = 0x36
    ∧ (engineStep timedOut (flying .rdata true 3 6)).trace = [.timeoutRelease] := by decide
/-- The source's bit-packing vector gives 1022 (90_conflicts.md C1). -/
theorem test_decoder_packing : (decodeReport ⟨0, 0, 0xFF, 0, 0, 0x08⟩).accelX = 1022 ∧ (decodeReport ⟨0, 0, 0xFF, 0, 0, 0x0C⟩).accelX = 1023 := by decide
theorem test_decoder_axes : (decodeReport ⟨0, 0, 0, 0x80, 0, 0x30⟩).accelY = 515 ∧ (decodeReport ⟨0, 0, 0, 0, 1, 0x40⟩).accelZ = 5 := by decide
/-- `TX(A4,A)`: its first bit's settings and its SCL pulses (95_test_vectors.md section 8). -/
theorem test_tx_lines : (txLines 0xA4).take 6 = [⟨true, false, false, false⟩, ⟨false, false, true, false⟩, ⟨true, false, false, false⟩,
    ⟨true, true, false, false⟩, ⟨false, true, true, false⟩, ⟨true, true, false, false⟩] := by decide
/-- The SCL pulses of the re-arm and of a report read (95_test_vectors.md section 8). -/
theorem test_pulses : tracePulses [.s, .tx 0xA4 .ack, .tx 0 .ack, .p] = 18
    ∧ tracePulses [.s, .tx 0xA5 .ack, .rx 1 .ack, .rx 2 .ack, .rx 3 .ack, .rx 4 .ack, .rx 5 .ack, .rx 6 .nack, .p] = 63 := by decide
/-- Whether the release after a timeout makes a stop condition (R110): not with SCL low, whoever holds it low. -/
theorem test_release_stop : releaseMakesStop ⟨true, true, false, false⟩ false = false ∧ releaseMakesStop ⟨false, true, true, false⟩ true = false
    ∧ releaseMakesStop ⟨false, true, true, false⟩ false = true ∧ releaseMakesStop ⟨false, false, true, true⟩ false = false := by decide
/-- A STOP whose clock the target holds low with SDA pulled by the block: the release makes no stop condition (R109, R110). -/
theorem test_stretched_stop : (lineRun holding (flying .stop false 0 1)).symbol = .timeoutRelease
    ∧ (lineRun holding (flying .stop false 0 1)).applied = [⟨true, true, false, false⟩, ⟨false, true, true, false⟩]
    ∧ timeoutMakesStop holding (flying .stop false 0 1) = false := by decide
/-- `TX(A4,A)` and `RX(5A,N)` read off the lines (95_test_vectors.md section 8), and the draws sampled there (R107, R108, R114). -/
theorem test_symbols_read_off : (lineRun acking (flying .addr false 0 2)).symbol = .tx 0xA4 .ack
    ∧ (lineRun sending5A (flying .rdata true 0 1)).symbol = .rx 0x5A .nack
    ∧ sampledDraw acking (flying .addr false 0 2) = ⟨false, .ack, 0, 27⟩
    ∧ (sampledDraw sending5A (flying .rdata true 0 1)).byte = 0x5A := by decide
/-- A clock stretched and then released is no timeout; a bus that never gets idle is one, before START's first setting (R103, R106). -/
theorem test_waits : (lineRun ⟨[], [[], [⟨true, false⟩, ⟨true, true⟩, ⟨false, true⟩]]⟩ (flying .addr false 0 2)).expired = false
    ∧ sampledDraw ⟨[⟨false, true⟩, ⟨true, false⟩], []⟩ (flying .start false 0 2) = ⟨true, .nack, 0, 0⟩
    ∧ (lineRun ⟨[⟨false, true⟩, ⟨false, false⟩], []⟩ (flying .start false 0 2)).symbol = .s := by decide
/-- A reset during a command (95_test_vectors.md section 9). -/
theorem test_reset_move : statusWord (resetMove (flying .rdata true 0 6)) = 0 ∧ (resetMove { flying .rdata true 0 6 with trace := [.s, .tx 0xA5 .ack] }).trace = [.s, .tx 0xA5 .ack] := by decide

/-- The end of a run comes with the last access (R149): what is left to return, to skip or to refuse makes none; a POLL, a dependent read
after a success, and a `readReport()` that an earlier operation makes Ready do; a fault or a command in flight is no good end. -/
theorem test_good_end :
    let failed := { State.reset with host := { State.reset.host with vars := ⟨0x216, 0, 0, 0, 0, 0, 0⟩ } }
    accessLeft [.enterHandshaking, .enterReady, .finishReport] State.reset = false ∧ accessLeft [.readReport, .finishReport] State.reset = false
      ∧ accessLeft [.loadIfOk .rx0 .rxdata0] failed = false ∧ accessLeft [.loadIfOk .rx0 .rxdata0] State.reset = true
      ∧ accessLeft [.enterReady, .poll] State.reset = true ∧ accessLeft [.enterHandshaking, .enterReady, .readReport] State.reset = true := by
  decide
theorem test_good_end_states :
    GoodEnd (hosted [.finishReport]) ∧ ¬ GoodEnd (hosted [.poll]) ∧ ¬ GoodEnd (flying .stop false 0 1)
      ∧ ¬ GoodEnd { State.reset with fault := some .unmapped } := by
  simp only [GoodEnd]; decide

/-! ### Witnesses: hypotheses that are met, clause by clause, at the ends of their ranges -/

theorem test_witness_DecodeInvertsEncode :
    WellFormed (.write 0 1) = true ∧ WellFormed (.write 0x7F 8) = true ∧ WellFormed (.read 0 1) = true ∧ WellFormed (.read 0x7F 8) = true
      ∧ WellFormed (.cmdRejected 0) = true ∧ WellFormed (.wrReadOnly .decButtons 0) = true ∧ WellFormed (.wrCmd 0) = true
      ∧ WellFormed .rdStatus = true := by decide

theorem test_witness_EncodeInvertsDecode :
    decode (.command 0x8FF) = .ok (.read 0x7F 8) ∧ decode (.access ⟨0x28, 4, .write 1⟩) = .ok (.wrReadOnly .decButtons 1) := by decide

/-- LEN 0 and 9, and the ends of RSV; LEN 1 and 8 in both directions. -/
theorem test_witness_CmdWordHasOneClass :
    (0x52#32).extractLsb' 8 4 = 0#4 ∧ ((0x952#32).extractLsb' 8 4).toNat = 9 ∧ (0x1152#32).extractLsb' 12 20 = 1#20
      ∧ (0x152#32).extractLsb' 12 20 = 0#20 ∧ ((0x152#32).extractLsb' 8 4).toNat = 1 ∧ (0x152#32).getLsbD 7 = false
      ∧ ((0x8FF#32).extractLsb' 8 4).toNat = 8 ∧ (0x8FF#32).getLsbD 7 = true ∧ (0x8FF#32).extractLsb' 12 20 = 0#20 := by decide

theorem test_witness_AccessChecksComeInOrder :
    (HostAccess.mk 0x04 1 .read).width ≠ 4 ∧ (HostAccess.mk 0x02 4 .read).offset % 4 ≠ 0
      ∧ ((HostAccess.mk 0x2C 4 .read).width = 4 ∧ (HostAccess.mk 0x2C 4 .read).offset % 4 = 0 ∧ 0x28 < (HostAccess.mk 0x2C 4 .read).offset)
      ∧ ((HostAccess.mk 0x28 4 .read).width = 4 ∧ (HostAccess.mk 0x28 4 .read).offset % 4 = 0 ∧ (HostAccess.mk 0x28 4 .read).offset ≤ 0x28)
      ∧ ((0x00, Instr.rdCmd, Instr.wrCmd 0x152) : Nat × Instr × Instr) ∈
          [(0x00, .rdCmd, .wrCmd 0x152), (0x28, .rdDecButtons, .wrReadOnly .decButtons 0x152)]
      ∧ ((0x28, Instr.rdDecButtons, Instr.wrReadOnly .decButtons 0x152) : Nat × Instr × Instr) ∈
          [(0x00, .rdCmd, .wrCmd 0x152), (0x28, .rdDecButtons, .wrReadOnly .decButtons 0x152)] := by decide

/-- The idle block and the block in flight: what the accesses' and the issues' clauses ask for. -/
theorem test_witness_idle_and_busy :
    State.reset.phase = .idle ∧ (flying .start false 0 1).phase ≠ .idle ∧ (flying .stop true 7 8).phase ≠ .idle := by decide

/-- WR TXDATA0 and TXDATA1, and the issues, have both a free and a busy block. -/
theorem test_witness_CmdReadsBackTheWordWritten : State.reset.phase = .idle := by decide
theorem test_witness_TxdataWriteStoresItsBytes : State.reset.phase = .idle ∧ (flying .wdata false 0 1).phase ≠ .idle := by decide
theorem test_witness_TxdataReadPacksItsBytes : (0 : Nat) < 4 ∧ 3 < 4 := by decide
theorem test_witness_RxdataReadNeedsRxValid : received.rxValid = true ∧ State.reset.rxValid = false := by decide
theorem test_witness_ReportReadNeedsReportValid : latched.reportValid = true ∧ State.reset.reportValid = false := by decide
theorem test_witness_DecReadReturnsTheDecodedFields : latched.reportValid = true ∧ State.reset.reportValid = false := by decide
theorem test_witness_WriteToReadOnlyIsIgnored :
    Reg.status ∈ [Reg.status, .rxdata0, .rxdata1, .report0, .report1, .decAnalog, .decAccel, .decButtons]
      ∧ Reg.decButtons ∈ [Reg.status, .rxdata0, .rxdata1, .report0, .report1, .decAnalog, .decAccel, .decButtons] := by decide

theorem test_witness_BadAndUnmappedAccessesFault :
    (hosted [.request (.access ⟨0x2C, 4, .read⟩)]).turn = .host
      ∧ (hosted [.request (.access ⟨0x2C, 4, .read⟩)]).host.program = [.request (.access ⟨0x2C, 4, .read⟩)]
      ∧ 0x2C % 4 = 0 ∧ 0x2C ∉ [0x00, 0x04, 0x08, 0x0C, 0x10, 0x14, 0x18, 0x1C, 0x20, 0x24, 0x28]
      ∧ (hosted [.request (.access ⟨0x02, 4, .read⟩)]).turn = .host
      ∧ (hosted [.request (.access ⟨0x02, 4, .read⟩)]).host.program = [.request (.access ⟨0x02, 4, .read⟩)] ∧ 0x02 % 4 ≠ 0
      ∧ (hosted [.request (.access ⟨0x04, 1, .write 0⟩)]).turn = .host
      ∧ (hosted [.request (.access ⟨0x04, 1, .write 0⟩)]).host.program = [.request (.access ⟨0x04, 1, .write 0⟩)] ∧ 1 ≠ 4 := by decide

theorem test_witness_HostFaultsAreExactlyTheTable : State.reset.fault = none := by decide

theorem test_witness_FaultMarkIsSticky :
    step { flying .addr true 0 6 with fault := some .unmapped } = .next (nextOf (step { flying .addr true 0 6 with fault := some .unmapped }))
      ∧ ({ flying .addr true 0 6 with fault := some .unmapped } : State).fault = some .unmapped := ⟨rfl, rfl⟩

theorem test_witness_NoAccessAltersACommandInFlight :
    exec (.wrTxdata0 1) (flying .wdata false 0 1) = .next (nextOf (exec (.wrTxdata0 1) (flying .wdata false 0 1)))
      ∧ (flying .wdata false 0 1).phase ≠ .idle := ⟨rfl, by decide⟩

theorem test_witness_UnreadableBytesStayUnreadable :
    SameButRxbuf State.reset { State.reset with rxbuf := ⟨1, 2, 3, 0, 0, 0, 0, 0⟩ } ∧ State.reset.rxValid = false := ⟨rfl, rfl⟩

theorem test_witness_CmdWriteWhileBusyFaults : (flying .start false 0 1).phase ≠ .idle := by decide
theorem test_witness_WriteIssueStartsTheEngine :
    State.reset.phase = .idle ∧ 1 ≤ (1#4).toNat ∧ (1#4).toNat ≤ 8 ∧ 1 ≤ (8#4).toNat ∧ (8#4).toNat ≤ 8 := by decide
theorem test_witness_ReadIssueClearsRxbuf :
    received.phase = .idle ∧ 1 ≤ (1#4).toNat ∧ (1#4).toNat ≤ 8 ∧ 1 ≤ (8#4).toNat ∧ (8#4).toNat ≤ 8 := by decide
theorem test_witness_IllegalWordIsRejectedAtOnce :
    State.reset.phase = .idle ∧ (0x52#32).extractLsb' 8 4 = 0#4 ∧ 9 ≤ ((0x952#32).extractLsb' 8 4).toNat
      ∧ (0x1152#32).extractLsb' 12 20 ≠ 0#20 ∧ (0x80000652#32).extractLsb' 12 20 ≠ 0#20 := by decide
theorem test_witness_CmdWriteIssuesByClass : (flying .stop true 0 1).phase ≠ .idle ∧ State.reset.phase = .idle := by decide
theorem test_witness_CmdWriteAgreesWithItsRow :
    decode (.command 0x152) = .ok (.write 0x52 1) ∧ decode (.command 0x8FF) = .ok (.read 0x7F 8)
      ∧ decode (.command 0x1152) = .ok (.cmdRejected 0x1152) := by decide

theorem test_witness_StartStepEmitsStart : (flying .start true 0 6).phase = .start ∧ (answered .ack 0).timeout = false := by decide
theorem test_witness_AddrStepFollowsTheAcknowledge :
    (flying .addr true 0 6).phase = .addr ∧ (answered .ack 0).timeout = false ∧ (answered .nack 0).ack = .nack := by decide
/-- The invariant and a byte that is not the last, together. -/
theorem test_witness_WdataStep_index :
    MachineInv (flying .wdata false 6 8) ∧ (flying .wdata false 6 8).phase = .wdata
      ∧ (flying .wdata false 6 8).idx.toNat + 1 ≠ (flying .wdata false 6 8).curLen.toNat := by
  refine ⟨?_, by decide, by decide⟩
  simp [MachineInv, InFlight, flying, State.reset]
/-- The last payload byte of eight and the one before it. -/
theorem test_witness_WdataStepSendsThePayloadByte :
    (flying .wdata false 7 8).phase = .wdata ∧ (answered .ack 0).timeout = false
      ∧ (flying .wdata false 7 8).idx.toNat + 1 = (flying .wdata false 7 8).curLen.toNat
      ∧ (flying .wdata false 6 8).idx.toNat + 1 ≠ (flying .wdata false 6 8).curLen.toNat := by decide
theorem test_witness_RdataStepStoresTheByte :
    (flying .rdata true 7 8).phase = .rdata ∧ (answered .ack 0).timeout = false
      ∧ (flying .rdata true 7 8).idx.toNat + 1 = (flying .rdata true 7 8).curLen.toNat
      ∧ (flying .rdata true 0 8).idx.toNat + 1 ≠ (flying .rdata true 0 8).curLen.toNat := by decide
theorem test_witness_StopStepCompletes : (flying .stop true 5 6).phase = .stop ∧ (answered .ack 0).timeout = false := by decide
theorem test_witness_TimeoutAbortsInEveryPhase :
    timedOut.timeout = true ∧ (flying .start false 0 1).phase ≠ .idle ∧ (flying .addr false 0 1).phase ≠ .idle
      ∧ (flying .wdata false 0 1).phase ≠ .idle ∧ (flying .rdata true 0 1).phase ≠ .idle ∧ (flying .stop true 0 1).phase ≠ .idle := by decide

theorem test_witness_FirstCauseWins :
    MachineInv { flying .stop false 0 2 with curCause := .dataNack } ∧ (flying .stop false 0 2).phase ≠ .idle
      ∧ ({ flying .stop false 0 2 with curCause := .dataNack } : State).curCause ≠ .none := by
  refine ⟨?_, by decide, by decide⟩
  simp [MachineInv, InFlight, flying, State.reset]

theorem test_witness_CommandCompletesInBoundedSteps :
    MachineInv (flying .start true 0 1) ∧ MachineInv (flying .start false 0 8) ∧ (flying .start true 0 1).phase = .start
      ∧ (List.replicate 4 timedOut).length = (flying .start true 0 1).curLen.toNat + 3
      ∧ (List.replicate 11 timedOut).length = (flying .start false 0 8).curLen.toNat + 3 := by
  refine ⟨?_, ?_, by decide, by decide, by decide⟩ <;> simp [MachineInv, InFlight, flying, State.reset]

theorem test_witness_EveryWriteTraceIsListed :
    State.reset.phase = .idle ∧ 1 ≤ (1#4).toNat ∧ (8#4).toNat ≤ 8 ∧ (List.replicate 4 timedOut).length = (1#4).toNat + 3
      ∧ (List.replicate 11 (answered .ack 0)).length = (8#4).toNat + 3 := by decide
theorem test_witness_EveryReadTraceIsListed :
    received.phase = .idle ∧ 1 ≤ (1#4).toNat ∧ (8#4).toNat ≤ 8 ∧ (List.replicate 4 (answered .nack 7)).length = (1#4).toNat + 3
      ∧ (List.replicate 11 (answered .ack 7)).length = (8#4).toNat + 3 := by decide
theorem test_witness_AcknowledgedWriteSucceeds :
    State.reset.phase = .idle ∧ 1 ≤ (1#4).toNat ∧ (1#4).toNat ≤ 8 ∧ (List.replicate 4 (answered .ack 0)).length = (1#4).toNat + 3
      ∧ ∀ d ∈ List.replicate 4 (answered .ack 0), d.timeout = false ∧ d.ack = .ack := by decide
/-- A one-byte read (no byte before the last) and a two-byte read. -/
theorem test_witness_AcknowledgedReadSucceeds :
    State.reset.phase = .idle ∧ (1#4).toNat ≤ 8 ∧ (1#4).toNat = ([] : List Draw).length + 1 ∧ (2#4).toNat = [answered .nack 0x11].length + 1
      ∧ (∀ d ∈ answered .nack 0 :: answered .ack 0 :: [answered .nack 0x11] ++ [answered .nack 0x22, answered .nack 0], d.timeout = false)
      ∧ (answered .ack 0).ack = .ack := by decide

/-- The latch, as the last step of a six-byte READ, and a reset, each changing the report. -/
theorem test_witness_ReportIsWrittenOnlyByTheLatch :
    (nextOf (step (flying .stop true 5 6))).reportValid = true
      ∧ (nextOf (step { latched with env := ⟨[.reset], [], 0⟩ })).reportValid = false := by decide

theorem test_witness_DataChangesOnlyWhileClockIsLow : (LineStep.mk true false false false).sclLow = true := by decide
theorem test_witness_BytesGoMostSignificantBitFirst : (0 : Nat) < 8 ∧ 7 < 8 := by decide

theorem test_witness_StepRunsTheDecodedInstruction :
    (hosted [.request (.access ⟨0x04, 4, .read⟩), .poll]).turn = .host
      ∧ (hosted [.request (.access ⟨0x04, 4, .read⟩), .poll]).host.program = .request (.access ⟨0x04, 4, .read⟩) :: [.poll]
      ∧ decode (.access ⟨0x04, 4, .read⟩) = .ok .rdStatus := by decide
theorem test_witness_FetchWordIsRunNext : decodeTableWord 32 0x152 = some (.write 0x52 1) ∧ decodeTableWord 8 0x28 = some .rdDecButtons := by decide
theorem test_witness_EngineTurnIsOneEngineStep :
    (flying .start false 0 1).turn = .engine ∧ (flying .start false 0 1).phase ≠ .idle
      ∧ ({ State.reset with env := ⟨[.engine], [], 0⟩ } : State).turn = .engine ∧ State.reset.phase = .idle := by decide

/-- The invariants hold, and a step is taken, in a state of each phase. -/
theorem test_witness_StepKeepsTheInvariant :
    MachineInv (flying .start true 0 8) ∧ MachineInv (flying .addr true 0 8) ∧ MachineInv (flying .wdata false 7 8)
      ∧ MachineInv (flying .rdata true 7 8) ∧ MachineInv (flying .stop true 7 8) ∧ MachineInv received := by
  refine ⟨?_, ?_, ?_, ?_, ?_, ?_⟩ <;> simp [MachineInv, InFlight, IdleStatus, flying, received, State.reset]
theorem test_witness_step_answers :
    step (flying .rdata true 7 8) = .next (nextOf (step (flying .rdata true 7 8)))
      ∧ step (flying .start true 0 8) = .next (nextOf (step (flying .start true 0 8))) ∧ (flying .start true 0 8).turn = .engine := ⟨rfl, rfl, rfl⟩
theorem test_witness_StepKeepsTheUnreadTailZero :
    MachineInv (flying .rdata true 7 8) ∧ RxTail (flying .rdata true 7 8) ∧ MachineInv received ∧ RxTail received := by
  refine ⟨?_, ?_, ?_, ?_⟩
  · simp [MachineInv, InFlight, flying, State.reset]
  · show ∀ j : BitVec 3, 7 ≤ j.toNat → State.reset.rxbuf.get j = 0
    decide
  · simp [MachineInv, IdleStatus, received, State.reset]
  · show true = true → ∀ j : BitVec 3, 8 ≤ j.toNat → received.rxbuf.get j = 0
    decide

/-- A failed WRITE (CAUSE 2) and a completed READ meet the invariant. -/
theorem test_witness_StatusIsAListedRow :
    MachineInv { State.reset with done := true, err := true, cause := .dataNack } ∧ MachineInv received := by
  constructor <;> simp [MachineInv, IdleStatus, received, State.reset]
theorem test_witness_IdleLinesAreReleased : MachineInv received ∧ received.phase = .idle := by
  refine ⟨?_, by decide⟩
  simp [MachineInv, IdleStatus, received, State.reset]
theorem test_witness_OnlyTheEngineExtendsTheTrace :
    (flying .addr false 0 1).turn = .engine ∧ (flying .addr false 0 1).phase ≠ .idle
      ∧ (hosted []).turn ≠ .engine := by decide
theorem test_witness_OnlyTxdataWritesChangeTxbuf :
    (nextOf (step (hosted [.request (.access ⟨0x08, 4, .write 1⟩)]))).txbuf ≠ State.reset.txbuf
      ∧ (nextOf (step { State.reset with txbuf := ⟨1, 0, 0, 0, 0, 0, 0, 0⟩, env := ⟨[.reset], [], 0⟩ })).txbuf ≠ ⟨1, 0, 0, 0, 0, 0, 0, 0⟩ := by decide
theorem test_witness_ResetRestoresTheBlock : ({ flying .rdata true 0 6 with env := ⟨[.reset], [], 0⟩ } : State).turn = .reset := by decide

/-- `initialize()` starts, ends, and a reset ends the session: three steps that change the driver state. -/
theorem test_witness_DriverStatesMoveInOrder :
    (nextOf (step (hosted [.enterHandshaking]))).host.driver = .handshaking
      ∧ (nextOf (step ((hosted [.enterReady]).setDriver .handshaking))).host.driver = .ready
      ∧ (nextOf (step { State.reset.setDriver .ready with env := ⟨[.reset], [], 0⟩ })).host.driver = .uninitialized := by decide
/-- The reset's clauses: no session, a session between two calls, `readReport()` cut off at its first operation, `initialize()` before
its last. -/
theorem test_witness_DriverStates_reset :
    let reset := fun s : State => { s with env := ⟨[.reset], [], 0⟩ }
    let inRead := reset { hosted (readReportOps ++ [.poll]) with host := { (hosted (readReportOps ++ [.poll])).host with call := some .readReport, driver := .ready } }
    let inInit := reset { hosted [.enterReady, .readReport] with host := { (hosted [.enterReady, .readReport]).host with call := some .initializing, driver := .handshaking } }
    (reset (hosted [.poll])).turn = .reset ∧ (nextOf (step (reset (hosted [.poll])))).host.program = [.poll]
      ∧ (nextOf (step (reset ((hosted [.poll]).setDriver .ready)))).host.program = [.runInitialize, .poll]
      ∧ inRead.host.program = readReportOps.dropLast ++ .finishReport :: [.poll]
      ∧ (∀ op ∈ readReportOps.dropLast, op ≠ .enterReady ∧ op ≠ .finishReport)
      ∧ (nextOf (step inRead)).host.program = [.runInitialize, .poll] ∧ (nextOf (step inRead)).host.result = some .notInitialized
      ∧ inInit.host.program = [] ++ .enterReady :: [.readReport]
      ∧ (nextOf (step inInit)).host.program = [.runInitialize, .readReport] ∧ (nextOf (step inInit)).host.result = none := by decide
theorem test_witness_ReadReportNeedsASession :
    (hosted [.readReport]).turn = .host ∧ (hosted [.readReport]).host.program = .readReport :: [] ∧ (hosted [.readReport]).host.driver ≠ .ready := by decide
/-- Words with ERR clear and set, and the DEC words of the end-to-end scenario (95_test_vectors.md sections 1.7 and 10.3). -/
theorem test_witness_ReadFailureIsReportedFirst :
    (hosted [.finishReport]).turn = .host ∧ (hosted [.finishReport]).host.program = .finishReport :: [] ∧ (0x216#32).getLsbD 2 = true
      ∧ (0x302#32).getLsbD 2 = false ∧ (0x226#32).getLsbD 2 = true
      ∧ 0x0000140A#32 = decAnalogWord (decodeReport latched.report) ∧ 0x0C828078#32 = decAccelWord (decodeReport latched.report)
      ∧ 0x00000003#32 = decButtonsWord (decodeReport latched.report) := by decide

/-- Each kind of operation in front of the program: a call in Ready, `initialize()`, POLL while IDLE and while BUSY, and a dependent read
after each outcome. -/
theorem test_witness_DriverCallsIssueTheirOperations :
    let ready := (hosted [.readReport, .poll]).setDriver .ready
    let polling := { flying .addr false 0 2 with host := (hosted [.poll]).host, env := ⟨[.host], [], 0⟩ }
    let failed := { hosted [.loadIfOk .a .decAnalog] with host := { (hosted [.loadIfOk .a .decAnalog]).host with vars := ⟨0x216, 0, 0, 0, 0, 0, 0⟩ } }
    ready.turn = .host ∧ ready.host.program = .readReport :: [.poll] ∧ ready.host.driver = .ready
      ∧ (hosted [.runInitialize]).turn = .host ∧ (hosted [.runInitialize]).host.program = .runInitialize :: []
      ∧ (hosted [.poll]).turn = .host ∧ (hosted [.poll]).host.program = .poll :: [] ∧ (hosted [.poll]).phase = .idle
      ∧ polling.turn = .host ∧ polling.host.program = .poll :: [] ∧ polling.phase ≠ .idle ∧ (nextOf (step polling)).host.program = [.poll]
      ∧ (hosted [.loadIfOk .a .decAnalog]).turn = .host ∧ (hosted [.loadIfOk .a .decAnalog]).host.program = .loadIfOk .a .decAnalog :: []
      ∧ (hosted [.loadIfOk .a .decAnalog]).host.vars.s1.getLsbD 2 = false
      ∧ failed.turn = .host ∧ failed.host.program = .loadIfOk .a .decAnalog :: [] ∧ failed.host.vars.s1.getLsbD 2 = true := by decide

/-- A sampled timeout, in a STOP and before a START, and draws the record clause holds of. -/
theorem test_witness_LineRunLeavesTheSameTrace :
    (sampledDraw holding (flying .stop false 0 1)).timeout = true ∧ AtWait (flying .stop false 0 1) 2 ∧ AtWait (flying .start false 0 1) 0
      ∧ (answered .ack 0).timeout = false ∧ AtWait (flying .rdata true 0 1) timedOut.abortAt :=
  ⟨by decide, .inr ⟨⟨false, true, true, false⟩, by decide, rfl, rfl⟩, .inl ⟨rfl, rfl⟩, rfl, .inr ⟨⟨false, false, true, true⟩, by decide, rfl, rfl⟩⟩
end

/-! PROOFS. The state of 10_state.md: what no move does to the fault mark (R29) and to the bus trace (R28). -/

namespace Sys2Proof.Machine

/-! ### One host move, as far as the block goes -/

/-- What the host does with an access's reply leaves the access's effect on the block. -/
theorem onNext_perform_eq_next (r : Request) (f : State → State) (s t : State) (hf : ∀ u, f u = { u with host := (f u).host })
    (h : onNext f (perform r s) = .next t) : ∃ u, perform r s = .next u ∧ t = { u with host := t.host } := by
  obtain ⟨u, hu, rfl⟩ := onNext_eq_next f _ t h
  exact ⟨u, hu, hf u⟩

/-- Everything an operation of the host's program does beside the host's own state: one request performed (its own, or the read of a
register), or nothing. -/
theorem hostOp_cases (op : HostOp) (s t : State) (h : hostOp op s = .next t) :
    (∃ r u, (op = .request r ∨ ∃ reg, r = readOf reg) ∧ perform r s = .next u ∧ t = { u with host := t.host })
      ∨ t = { s with host := t.host } := by
  cases ha : opAccesses op s.host with
  | false =>
    obtain ⟨hn, hh, -, -⟩ := hostOp_noAccess op s ha
    cases hn.symm.trans h
    exact .inr hh
  | true =>
    cases op with
    | request r => exact .inl ⟨r, t, .inl rfl, h, rfl⟩
    | load x reg =>
      obtain ⟨u, hu, ht⟩ := onNext_perform_eq_next (readOf reg) (State.keepReply x) s t (fun u => by rw [keepReply_eq]) h
      exact .inl ⟨_, u, .inr ⟨reg, rfl⟩, hu, ht⟩
    | loadIfOk x reg =>
      have hs : statusErr s.host.vars.s1 = false := by simpa [opAccesses] using ha
      obtain ⟨u, hu, ht⟩ := onNext_perform_eq_next (readOf reg) (State.keepReply x) s t (fun u => by rw [keepReply_eq])
        (by simpa [hostOp, hs] using h)
      exact .inl ⟨_, u, .inr ⟨reg, rfl⟩, hu, ht⟩
    | poll =>
      obtain ⟨u, hu, ht⟩ := onNext_perform_eq_next (readOf .status) State.pollAgain s t (fun u => by rw [pollAgain_eq]) h
      exact .inl ⟨_, u, .inr ⟨.status, rfl⟩, hu, ht⟩
    | runInitialize => cases h; exact .inr rfl
    | readReport =>
      have hd : s.host.driver = .ready := by simpa [opAccesses] using ha
      have ht : (s.push readReportOps).setCall (some .readReport) = t := by simpa [hostOp, State.callReadReport, hd] using h
      subst ht
      exact .inr rfl
    | enterHandshaking => cases ha
    | enterReady => cases ha
    | finishReport => cases ha

theorem hostStep_cases (s t : State) (h : hostStep s = .next t) :
    (∃ r u, perform r s.popOp = .next u ∧ t = { u with host := t.host }) ∨ t = { s with host := t.host } := by
  unfold hostStep at h
  split at h
  · cases h; exact .inr rfl
  · next op _ _ =>
    rcases hostOp_cases op _ t h with ⟨r, u, -, hu, ht⟩ | ht
    · exact .inl ⟨r, u, hu, ht⟩
    · exact .inr ht

/-! ### The fault mark (R29) -/

/-- A fault mark set in `s` stands unchanged in `t`. -/
def KeepsFault (s t : State) : Prop := ∀ f, s.fault = some f → t.fault = some f

theorem keepsFault_of_fault_eq {s t : State} (h : t.fault = s.fault) : KeepsFault s t := fun _ hf => h.trans hf

theorem raise_keepsFault (f : Fault) (s : State) : KeepsFault s (s.raise f) := fun g hg => raise_fault_some f g s hg

theorem answerIf_keepsFault (c : Bool) (f : Fault) (w : Word) (s : State) : KeepsFault s (s.answerIf c f w) := by
  rcases answerIf_cases c f w s with ⟨_, e⟩ | ⟨_, e⟩ <;> rw [e]
  · exact keepsFault_of_fault_eq rfl
  · exact raise_keepsFault f s

theorem writeIfIdle_keepsFault (f : Fault) (g : State → State) (hg : ∀ t, (g t).fault = t.fault) (s : State) :
    KeepsFault s (s.writeIfIdle f g) := by
  rcases writeIfIdle_cases f g s with ⟨_, e⟩ | ⟨_, e⟩ <;> rw [e]
  · exact keepsFault_of_fault_eq (hg s.silent)
  · exact raise_keepsFault f s

theorem commandWrite_keepsFault (v : Word) (g : State → State) (hg : ∀ t, (g t).fault = t.fault) (s : State) :
    KeepsFault s (s.commandWrite v g) := writeIfIdle_keepsFault .cmdWhileBusy _ (fun t => hg { t with cmd := v }) s

@[simp] theorem issue_fault (v : Word) (s : State) : (issue v s).fault = s.fault := by
  rcases issue_cases v s with ⟨_, _, e⟩ | ⟨_, _, e⟩ | ⟨_, e⟩ <;> rw [e] <;> rfl

/-- An instruction either keeps the mark as it is or goes through a guard that raises. -/
theorem exec_keepsFault (i : Instr) (s t : State) (h : exec i s = .next t) : KeepsFault s t := by
  cases i with
  | write addr len => cases h; exact commandWrite_keepsFault _ (issueWrite addr len) (fun _ => rfl) s
  | read addr len => cases h; exact commandWrite_keepsFault _ (issueRead addr len) (fun _ => rfl) s
  | cmdRejected v => cases h; exact commandWrite_keepsFault v issueRejected (fun _ => rfl) s
  | wrCmd v => cases h; exact commandWrite_keepsFault v (issue v) (issue_fault v) s
  | wrTxdata0 v => cases h; exact writeIfIdle_keepsFault _ _ (fun _ => by rfl) s
  | wrTxdata1 v => cases h; exact writeIfIdle_keepsFault _ _ (fun _ => by rfl) s
  | rdRxdata0 => cases h; exact answerIf_keepsFault _ _ _ s
  | rdRxdata1 => cases h; exact answerIf_keepsFault _ _ _ s
  | rdReport0 => cases h; exact answerIf_keepsFault _ _ _ s
  | rdReport1 => cases h; exact answerIf_keepsFault _ _ _ s
  | rdDecAnalog => cases h; exact answerIf_keepsFault _ _ _ s
  | rdDecAccel => cases h; exact answerIf_keepsFault _ _ _ s
  | rdDecButtons => cases h; exact answerIf_keepsFault _ _ _ s
  | rdCmd => cases h; exact keepsFault_of_fault_eq rfl
  | rdStatus => cases h; exact keepsFault_of_fault_eq rfl
  | rdTxdata0 => cases h; exact keepsFault_of_fault_eq rfl
  | rdTxdata1 => cases h; exact keepsFault_of_fault_eq rfl
  | wrReadOnly r v => cases h; exact keepsFault_of_fault_eq rfl

theorem perform_keepsFault (r : Request) (s t : State) (h : perform r s = .next t) : KeepsFault s t := by
  rcases perform_cases r s with ⟨i, _, e⟩ | ⟨_, _, e⟩ <;> rw [e] at h
  · exact exec_keepsFault i s t h
  · cases h; exact raise_keepsFault _ s

theorem hostStep_keepsFault (s t : State) (h : hostStep s = .next t) : KeepsFault s t := by
  rcases hostStep_cases s t h with ⟨r, u, hu, ht⟩ | ht <;> rw [ht]
  · exact perform_keepsFault r s.popOp u hu
  · exact keepsFault_of_fault_eq rfl

@[simp] theorem engineMove_fault (s : State) : (engineMove s).fault = s.fault := by
  unfold engineMove
  split
  · exact (engineStep_frame s.draw s).1
  · rfl

theorem step_keepsFault (s t : State) (h : step s = .next t) : KeepsFault s t := by
  rcases step_cases s with ⟨_, e⟩ | ⟨_, e⟩ | ⟨_, e⟩ <;> rw [e] at h
  · exact hostStep_keepsFault s.passTurn t h
  · cases h; exact keepsFault_of_fault_eq (engineMove_fault s)
  · cases h; exact keepsFault_of_fault_eq rfl

/-! ### The bus trace (R28, R78) -/

/-- No host access emits a symbol. -/
theorem exec_trace (i : Instr) (s t : State) (h : exec i s = .next t) : t.trace = s.trace := by
  rcases exec_cases i s t h with e | ⟨_, _, _, _, e⟩ | ⟨_, _, _, _, _, e⟩ | ⟨_, _, _, _, _, e⟩ | ⟨_, _, e⟩ <;> rw [e] <;> rfl

theorem perform_trace (r : Request) (s t : State) (h : perform r s = .next t) : t.trace = s.trace := by
  rcases perform_cases r s with ⟨i, _, e⟩ | ⟨_, _, e⟩ <;> rw [e] at h
  · exact exec_trace i s t h
  · cases h; rfl

theorem hostStep_trace (s t : State) (h : hostStep s = .next t) : t.trace = s.trace := by
  rcases hostStep_cases s t h with ⟨r, u, hu, ht⟩ | ht <;> rw [ht]
  exact perform_trace r s.popOp u hu

@[simp] theorem nextByte_trace (s : State) : s.nextByte.trace = s.trace := by
  unfold State.nextByte
  split <;> rfl

/-- A command in flight emits one symbol in each engine step: its phase's own, or `TO` (R78, R89). -/
theorem engineStep_trace (d : Draw) (s : State) (h : s.phase ≠ .idle) : ∃ y, (engineStep d s).trace = s.trace ++ [y] := by
  rcases engineStep_cases d s with ⟨hi, _⟩ | ⟨_, _, e⟩ | ⟨_, _, e⟩ | ⟨_, _, e⟩ | ⟨_, _, e⟩ | ⟨_, _, e⟩ | ⟨_, _, e⟩
  · exact absurd hi h
  · exact ⟨.timeoutRelease, by rw [e, timeoutAbort_eq]⟩
  · exact ⟨.s, by rw [e]; rfl⟩
  · exact ⟨.tx (addrByte s.curAddr s.curRw) d.ack, by rw [e]; cases d.ack <;> rfl⟩
  · exact ⟨.tx (s.txbuf.get s.idx) d.ack, by rw [e]; cases d.ack <;> simp [stepWdata]⟩
  · exact ⟨.rx d.byte s.readAck, by rw [e]; simp [stepRdata]⟩
  · exact ⟨.p, by rw [e, stepStop, complete_eq]; rfl⟩

theorem engineMove_idle (s : State) (h : s.phase = .idle) : engineMove s = s := by simp [engineMove, h]

theorem engineMove_trace (s : State) (h : s.phase ≠ .idle) : ∃ y, (engineMove s).trace = s.trace ++ [y] := by
  simpa [engineMove, h] using engineStep_trace s.draw s h

end Sys2Proof.Machine

section

open Sys2Proof Sys2Proof.Machine

/-- Settles O17: each agent's move keeps a fault mark once set, the host's because every guard goes through `raise` (R29, R157). -/
theorem faultMarkIsSticky : Obligations.FaultMarkIsSticky :=
  ⟨rfl, fun s t f h hf => step_keepsFault s t h f hf⟩

/-- Settles O53, by the agent whose turn it is: only an engine step with a command in flight emits (R28, R78). -/
theorem onlyTheEngineExtendsTheTrace : Obligations.OnlyTheEngineExtendsTheTrace := by
  refine ⟨rfl, fun s t h => ?_⟩
  rcases step_cases s with ⟨hturn, e⟩ | ⟨hturn, e⟩ | ⟨hturn, e⟩ <;> rw [e] at h
  · exact ⟨fun hb => by simp [hturn] at hb, fun _ => hostStep_trace s.passTurn t h⟩
  · cases h
    refine ⟨fun ⟨_, hb⟩ => engineMove_trace s hb, fun hb => ?_⟩
    have hi : s.phase = .idle := by simpa [hturn] using hb
    rw [engineMove_idle s hi, passTurn_trace]
  · cases h
    exact ⟨fun hb => by simp [hturn] at hb, fun _ => rfl⟩

end

/-! PROOFS. The host accesses of 20_memory.md: what each register read and write does (R36, R38, R40 to R47). -/

namespace Sys2Proof.Machine

/-! ### DATA words and buffers, byte by byte (R43, R44, R48) -/

theorem lane_low (b : Buf) {n : Nat} (hn : n < 4) : lane b.low n = b.get (BitVec.ofNat 3 n) := by
  obtain ⟨h0, h1, h2, h3⟩ := lane_packWord b.b0 b.b1 b.b2 b.b3
  interval_cases n
  exacts [h0, h1, h2, h3]

theorem lane_high (b : Buf) {n : Nat} (hn : n < 4) : lane b.high n = b.get (BitVec.ofNat 3 (4 + n)) := by
  obtain ⟨h0, h1, h2, h3⟩ := lane_packWord b.b4 b.b5 b.b6 b.b7
  interval_cases n
  exacts [h0, h1, h2, h3]

theorem get_setLow (b : Buf) (v : Word) (j : BitVec 3) :
    (b.setLow v).get j = if j.toNat < 4 then lane v j.toNat else b.get j := by
  rcases index_cases j with h | h | h | h | h | h | h | h <;> subst h <;> rfl

theorem get_setHigh (b : Buf) (v : Word) (j : BitVec 3) :
    (b.setHigh v).get j = if 4 ≤ j.toNat then lane v (j.toNat - 4) else b.get j := by
  rcases index_cases j with h | h | h | h | h | h | h | h <;> subst h <;> rfl

/-! ### The fields of the STATUS word (R68) -/

theorem statusWord_flags (s : State) :
    (statusWord s).getLsbD 0 = s.busy ∧ (statusWord s).getLsbD 1 = s.done ∧ (statusWord s).getLsbD 2 = s.err
      ∧ (statusWord s).getLsbD 8 = s.rxValid ∧ (statusWord s).getLsbD 9 = s.reportValid := by
  simp only [statusWord, BitVec.getLsbD_append]
  simp

theorem statusWord_cause (s : State) : (statusWord s).extractLsb' 4 3 = s.cause.code := by
  simp (disch := decide) only [statusWord, BitVec.extractLsb'_append_eq_of_le, BitVec.extractLsb'_append_eq_of_add_le]
  simp

/-- The reserved bits of STATUS read as 0. -/
theorem statusWord_reserved (s : State) :
    (statusWord s).getLsbD 3 = false ∧ (statusWord s).getLsbD 7 = false ∧ ∀ i, 10 ≤ i → (statusWord s).getLsbD i = false := by
  refine ⟨?_, ?_, fun i hi => ?_⟩
  · simp only [statusWord, BitVec.getLsbD_append]
    simp
  · simp only [statusWord, BitVec.getLsbD_append]
    simp
  · obtain ⟨j, rfl⟩ := Nat.exists_eq_add_of_le' hi
    simp only [statusWord, BitVec.getLsbD_append]
    simp

/-! ### The fields of the DEC words and of REPORT1 (R71, R72, R128) -/

theorem decAnalogWord_fields (rd : Reading) :
    (decAnalogWord rd).extractLsb' 0 8 = rd.analogX ∧ (decAnalogWord rd).extractLsb' 8 8 = rd.analogY
      ∧ (decAnalogWord rd).extractLsb' 16 16 = 0 := by
  simp (disch := decide) only [decAnalogWord, BitVec.extractLsb'_append_eq_of_le, BitVec.extractLsb'_append_eq_of_add_le]
  simp

theorem decAccelWord_fields (rd : Reading) :
    (decAccelWord rd).extractLsb' 0 10 = rd.accelX ∧ (decAccelWord rd).extractLsb' 10 10 = rd.accelY
      ∧ (decAccelWord rd).extractLsb' 20 10 = rd.accelZ ∧ (decAccelWord rd).extractLsb' 30 2 = 0 := by
  simp (disch := decide) only [decAccelWord, BitVec.extractLsb'_append_eq_of_le, BitVec.extractLsb'_append_eq_of_add_le]
  simp

theorem decButtonsWord_fields (rd : Reading) :
    (decButtonsWord rd).getLsbD 0 = rd.buttonC ∧ (decButtonsWord rd).getLsbD 1 = rd.buttonZ
      ∧ (decButtonsWord rd).extractLsb' 2 30 = 0 := by
  simp (disch := decide) only [decButtonsWord, BitVec.getLsbD_append, BitVec.extractLsb'_append_eq_of_le]
  simp

theorem report_high_fields (r : Report) :
    r.high.extractLsb' 0 8 = r.b4 ∧ r.high.extractLsb' 8 8 = r.b5 ∧ r.high.extractLsb' 16 16 = 0 := by
  simp (disch := decide) only [Report.high, packWord, BitVec.extractLsb'_append_eq_of_le, BitVec.extractLsb'_append_eq_of_add_le]
  simp

/-! ### What a register read returns (R38, R41 to R47) -/

/-- The valid bit a register's read asks for; a read without a guard has a meaning in every state. -/
def readValid (r : Reg) (s : State) : Bool :=
  match r with
  | .rxdata0 | .rxdata1 => s.rxValid
  | .report0 | .report1 | .decAnalog | .decAccel | .decButtons => s.reportValid
  | .cmd | .status | .txdata0 | .txdata1 => true

/-- The host fault of a register's read while its valid bit is 0; the registers without a guard never come to it (`readValid`). -/
def readFault : Reg → Fault
  | .rxdata0 | .rxdata1 => .rxNotValid
  | .report0 | .report1 | .decAnalog | .decAccel | .decButtons | .cmd | .status | .txdata0 | .txdata1 => .reportNotValid

/-- The word a register's read returns while its valid bit is 1. -/
def readWord (r : Reg) (s : State) : Word :=
  match r with
  | .cmd => s.cmd
  | .status => statusWord s
  | .txdata0 => s.txbuf.low
  | .txdata1 => s.txbuf.high
  | .rxdata0 => s.rxbuf.low
  | .rxdata1 => s.rxbuf.high
  | .report0 => s.report.low
  | .report1 => s.report.high
  | .decAnalog => decAnalogWord (decodeReport s.report)
  | .decAccel => decAccelWord (decodeReport s.report)
  | .decButtons => decButtonsWord (decodeReport s.report)

/-- Every register read is one guarded answer. -/
theorem exec_readInstr (r : Reg) (s : State) :
    exec (readInstr r) s = .next (s.answerIf (readValid r s) (readFault r) (readWord r s)) := by
  cases r <;> rfl

theorem exec_readInstr_valid (r : Reg) {s : State} (h : readValid r s = true) :
    exec (readInstr r) s = .next { s with reply := some (readWord r s) } := by
  rw [exec_readInstr, h]; rfl

theorem exec_readInstr_invalid (r : Reg) {s : State} (h : readValid r s = false) :
    exec (readInstr r) s = .next { s with fault := s.fault.or (some (readFault r)), reply := none } := by
  rw [exec_readInstr, h]; rfl

theorem exec_rdCmd {s : State} {v : Word} (h : s.cmd = v) : exec .rdCmd s = .next { s with reply := some v } := by
  subst h
  exact exec_readInstr_valid .cmd rfl

theorem readValid_congr (r : Reg) {s t : State} (h : SameButReply s t) : readValid r t = readValid r s := by
  rw [h]; cases r <;> rfl

theorem readWord_congr (r : Reg) {s t : State} (h : SameButReply s t) : readWord r t = readWord r s := by
  rw [h]; cases r <;> rfl

@[simp] theorem answerIf_reply (c : Bool) (f : Fault) (w : Word) (s : State) :
    (s.answerIf c f w).reply = if c then some w else none := by
  cases c <;> rfl

/-! ### Writes (R36, R40, R43) -/

theorem writeIfIdle_idle (f : Fault) (g : State → State) {s : State} (h : s.phase = .idle) : s.writeIfIdle f g = g s.silent := by
  rcases writeIfIdle_cases f g s with ⟨_, e⟩ | ⟨hb, _⟩
  · exact e
  · exact absurd h hb

theorem writeIfIdle_busy (f : Fault) (g : State → State) {s : State} (h : s.phase ≠ .idle) : s.writeIfIdle f g = s.raise f := by
  rcases writeIfIdle_cases f g s with ⟨hi, _⟩ | ⟨_, e⟩
  · exact absurd hi h
  · exact e

theorem exec_wrTxdata0_idle (v : Word) {s : State} (h : s.phase = .idle) :
    exec (.wrTxdata0 v) s = .next { s with txbuf := s.txbuf.setLow v, reply := none } :=
  congrArg Host.Outcome.next (writeIfIdle_idle _ _ h)

theorem exec_wrTxdata1_idle (v : Word) {s : State} (h : s.phase = .idle) :
    exec (.wrTxdata1 v) s = .next { s with txbuf := s.txbuf.setHigh v, reply := none } :=
  congrArg Host.Outcome.next (writeIfIdle_idle _ _ h)

theorem exec_wrCmd_idle (v : Word) {s : State} (h : s.phase = .idle) :
    exec (.wrCmd v) s = .next (issue v { s with cmd := v, reply := none }) :=
  congrArg Host.Outcome.next (commandWrite_idle v (issue v) s h)

theorem writeInstr_readOnly (v : Word) {r : Reg} (h : r.readOnly = true) : writeInstr v r = .wrReadOnly r v := by
  cases r with
  | cmd | txdata0 | txdata1 => cases h
  | status | rxdata0 | rxdata1 | report0 | report1 | decAnalog | decAccel | decButtons => rfl

/-! ### CMD after an issue (R41, R79) -/

@[simp] theorem issue_cmd (v : Word) (s : State) : (issue v s).cmd = s.cmd := by
  rcases issue_cases v s with ⟨_, _, e⟩ | ⟨_, _, e⟩ | ⟨_, e⟩ <;> rw [e] <;> rfl

theorem engineStep_cmd (d : Draw) (s : State) : (engineStep d s).cmd = s.cmd := by
  obtain ⟨-, -, -, -, hcmd, -⟩ := engineStep_frame d s
  exact hcmd

theorem engineStep_txbuf (d : Draw) (s : State) : (engineStep d s).txbuf = s.txbuf := by
  obtain ⟨-, htxbuf, -⟩ := engineStep_frame d s
  exact htxbuf

theorem engineRun_cmd (ds : List Draw) (s : State) : (engineRun ds s).cmd = s.cmd := by
  induction ds generalizing s with
  | nil => rfl
  | cons d ds ih => rw [engineRun, ih, engineStep_cmd]

/-- What an issue does, by the fields of the word (R66, R79 to R82). -/
theorem issue_eq (v : Word) (s : State) :
    issue v s =
      if v.extractLsb' 12 20 = 0#20 ∧ 1 ≤ (v.extractLsb' 8 4).toNat ∧ (v.extractLsb' 8 4).toNat ≤ 8 then
        { s.acceptCommand (cmdRw v) (cmdAddr v) (cmdLen v) with rxbuf := if cmdRw v then Buf.zero else s.rxbuf }
      else s.rejectFlags := by
  rcases issue_cases v s with ⟨hl, hr, e⟩ | ⟨hl, hr, e⟩ | ⟨hl, e⟩
  · rw [e, if_pos ((cmdLegal_iff v).1 hl), hr]; rfl
  · rw [e, if_pos ((cmdLegal_iff v).1 hl), hr]; rfl
  · rw [e, if_neg (fun h => by simp [(cmdLegal_iff v).2 h] at hl)]; rfl

end Sys2Proof.Machine

section

open Sys2Proof Sys2Proof.Machine

/-- Settles O6: no engine step touches CMD, by induction on the draws of the run (R41). -/
theorem cmdReadsBackTheWordWritten : Obligations.CmdReadsBackTheWordWritten := by
  refine ⟨fun _ => exec_rdCmd rfl, fun v s ds h => ⟨_, exec_wrCmd_idle v h, ?_⟩⟩
  exact exec_rdCmd (by rw [engineRun_cmd, issue_cmd])

/-- Settles O7, field by field (R42, R68). -/
theorem statusReadReturnsTheLayout : Obligations.StatusReadReturnsTheLayout := by
  intro s
  obtain ⟨hbusy, hdone, herr, hrx, hreport⟩ := statusWord_flags s
  obtain ⟨h3, h7, hhigh⟩ := statusWord_reserved s
  refine ⟨statusWord s, exec_readInstr_valid .status rfl, hbusy, hdone, herr, h3, ?_, h7, hrx, hreport, hhigh⟩
  rw [statusWord_cause]
  cases s.cause <;> rfl

/-- Settles O8: both are guarded writes, and each half is set byte by byte (R43). -/
theorem txdataWriteStoresItsBytes : Obligations.TxdataWriteStoresItsBytes := by
  refine fun v s => ⟨fun h => ?_, fun h => ?_⟩
  · exact ⟨_, _, exec_wrTxdata0_idle v h, exec_wrTxdata1_idle v h, get_setLow s.txbuf v, get_setHigh s.txbuf v⟩
  · exact ⟨congrArg Host.Outcome.next (writeIfIdle_busy _ _ h), congrArg Host.Outcome.next (writeIfIdle_busy _ _ h)⟩

/-- Settles O9: the engine's frame keeps TXBUF, and the words are its bytes lane by lane (R44, R48). -/
theorem txdataReadPacksItsBytes : Obligations.TxdataReadPacksItsBytes := fun s =>
  ⟨fun d => engineStep_txbuf d s, s.txbuf.low, s.txbuf.high, exec_readInstr_valid .txdata0 rfl, exec_readInstr_valid .txdata1 rfl,
    fun _ hn => ⟨lane_low s.txbuf hn, lane_high s.txbuf hn⟩⟩

/-- Settles O11: both reads are guarded by REPORT_VALID (R46, R71). -/
theorem reportReadNeedsReportValid : Obligations.ReportReadNeedsReportValid := by
  refine fun s => ⟨fun h => ?_, fun h => ?_⟩
  · exact ⟨exec_readInstr_valid .report0 h, s.report.high, exec_readInstr_valid .report1 h, report_high_fields s.report⟩
  · exact ⟨exec_readInstr_invalid .report0 h, exec_readInstr_invalid .report1 h⟩

/-- Settles O12: the reads are guarded by REPORT_VALID, and each axis is its high byte above its two low bits (R47, R72, R119 to R121). -/
theorem decReadReturnsTheDecodedFields : Obligations.DecReadReturnsTheDecodedFields := by
  refine fun s => ⟨fun h => ?_, fun h => ?_⟩
  · obtain ⟨hx, hy, ha⟩ := decAnalogWord_fields (decodeReport s.report)
    obtain ⟨hax, hay, haz, hc⟩ := decAccelWord_fields (decodeReport s.report)
    exact ⟨_, _, _, exec_readInstr_valid .decAnalog h, exec_readInstr_valid .decAccel h, exec_readInstr_valid .decButtons h,
      hx, hy, ha, hax.trans (accelField_eq_append _ _ 2), hay.trans (accelField_eq_append _ _ 4),
      haz.trans (accelField_eq_append _ _ 6), hc, decButtonsWord_fields (decodeReport s.report)⟩
  · exact ⟨exec_readInstr_invalid .decAnalog h, exec_readInstr_invalid .decAccel h, exec_readInstr_invalid .decButtons h⟩

/-- Settles O13: a read is one guarded answer, and neither its guard nor its word looks at what a read changes (R38). -/
theorem readsHaveNoSideEffect : Obligations.ReadsHaveNoSideEffect := by
  intro r s
  have hsame := answerIf_sameButReply (readValid r s) (readFault r) (readWord r s) s
  refine ⟨_, _, exec_readInstr r s, hsame, exec_readInstr r _, ?_⟩
  rw [answerIf_reply, answerIf_reply, readValid_congr r hsame, readWord_congr r hsame]

/-- Settles O14: every register of the list is read-only, and the write of such a register is the ignored write (R36). -/
theorem writeToReadOnlyIsIgnored : Obligations.WriteToReadOnlyIsIgnored := by
  intro r v s hr
  have hro : r.readOnly = true :=
    (by decide : ∀ q ∈ [Reg.status, .rxdata0, .rxdata1, .report0, .report1, .decAnalog, .decAccel, .decButtons], q.readOnly = true) r hr
  refine ⟨?_, rfl⟩
  rw [decode_mapped, regInstr, writeInstr_readOnly v hro]

/-- Settles O24: the busy check, then the word's class (R40, R79 to R82). -/
theorem cmdWriteIssuesByClass : Obligations.CmdWriteIssuesByClass := by
  refine fun v s => ⟨fun h => congrArg Host.Outcome.next (commandWrite_busy v (issue v) s h), fun h => ?_⟩
  rw [exec_wrCmd_idle v h, issue_eq]
  rfl

end

/-! PROOFS. The encodings of 30_encoding.md: the class of a CMD word and the mask that tells it (R61, R65, R66). -/

namespace Sys2Proof

theorem decode_command_legal {v : Word} (h : cmdLegal v = true) :
    decode (.command v) = .ok (if cmdRw v then .read (cmdAddr v) (cmdLen v) else .write (cmdAddr v) (cmdLen v)) := by
  rw [decode, decodeCmd, if_pos h]

theorem decode_command_illegal {v : Word} (h : cmdLegal v = false) : decode (.command v) = .ok (.cmdRejected v) := by
  rw [decode, decodeCmd, h, if_neg Bool.false_ne_true]

/-- The mask of the WRITE and READ rows keeps RSV and RW of a word and clears LEN and ADDR (R61). -/
theorem and_classMask (v : Word) : v &&& 0xFFFFF080 = cmdRsv v ++ 0#4 ++ BitVec.ofBool (cmdRw v) ++ 0#7 := by
  have hmask : (0xFFFFF080 : Word) = BitVec.allOnes 20 ++ 0#4 ++ BitVec.allOnes 1 ++ 0#7 := by decide
  calc v &&& 0xFFFFF080
      = (cmdRsv v ++ cmdLen v ++ BitVec.ofBool (cmdRw v) ++ cmdAddr v) &&& (BitVec.allOnes 20 ++ 0#4 ++ BitVec.allOnes 1 ++ 0#7) := by
        rw [← cmd_eq_fields, ← hmask]
    _ = cmdRsv v ++ 0#4 ++ BitVec.ofBool (cmdRw v) ++ 0#7 := by
        simp only [BitVec.and_append, BitVec.and_allOnes, BitVec.and_zero]

/-- With RSV clear the mask keeps RW and nothing else, which gives the match values of the WRITE and READ rows (R61, R66). -/
theorem and_classMask_of_rsv_zero {v : Word} (h : cmdRsv v = 0#20) : v &&& 0xFFFFF080 = if cmdRw v then 0x80 else 0 := by
  rw [and_classMask, h]
  cases cmdRw v <;> rfl

end Sys2Proof

section

open Sys2Proof

/-- Settles O3: the first clause is the well-formedness of a rejected word, and a legal word is the READ or the WRITE of its fields,
told apart by the one bit that the mask keeps beside RSV (R64 to R66). -/
theorem cmdWordHasOneClass : Obligations.CmdWordHasOneClass := by
  refine fun v => ⟨fun h => decode_command_illegal ?_, fun hrsv hlo hhi hrw => ?_, fun hrsv hlo hhi hrw => ?_⟩
  · rw [← wellFormed_cmdRejected_iff]
    simpa [WellFormed, or_assoc] using h
  · have hlegal : cmdLegal v = true := (cmdLegal_iff v).2 ⟨hrsv, hlo, hhi⟩
    have hwrite : ¬ cmdRw v = true := Bool.eq_false_iff.1 hrw
    exact ⟨by rw [decode_command_legal hlegal, if_neg hwrite]; rfl, by rw [and_classMask_of_rsv_zero hrsv, if_neg hwrite]⟩
  · have hlegal : cmdLegal v = true := (cmdLegal_iff v).2 ⟨hrsv, hlo, hhi⟩
    have hread : cmdRw v = true := hrw
    exact ⟨by rw [decode_command_legal hlegal, if_pos hread]; rfl, by rw [and_classMask_of_rsv_zero hrsv, if_pos hread]⟩

end

/-! PROOFS. The transactions of 40_transactions.md: a rejected word (R82, R154), the engine's steps (R83 to R85, R88) and the first cause (R91). -/

namespace Sys2Proof.Machine

/-! ### A rejected word (R82, R154) -/

theorem issue_illegal {v : Word} (s : State) (h : v.extractLsb' 12 20 ≠ 0#20 ∨ v.extractLsb' 8 4 = 0#4 ∨ 9 ≤ (v.extractLsb' 8 4).toNat) :
    issue v s = s.rejectFlags := by
  rw [issue_eq, if_neg]
  rintro ⟨hrsv, hlo, hhi⟩
  rcases h with h | h | h
  · exact h hrsv
  · simp [h] at hlo
  · omega

theorem exec_cmdRejected_idle (v : Word) {s : State} (h : s.phase = .idle) :
    exec (.cmdRejected v) s = .next ({ s with cmd := v, reply := none } : State).rejectFlags :=
  congrArg Host.Outcome.next (commandWrite_idle v issueRejected s h)

/-- The fields of STATUS from CAUSE down to BUSY, as one number (R68). -/
theorem statusWord_low (s : State) :
    (statusWord s).extractLsb' 0 7 = s.cause.code ++ 0#1 ++ BitVec.ofBool s.err ++ BitVec.ofBool s.done ++ BitVec.ofBool s.busy := by
  apply BitVec.eq_of_getLsbD_eq
  intro i hi
  simp only [statusWord, BitVec.getLsbD_extractLsb', BitVec.getLsbD_append]
  interval_cases i <;> simp

theorem statusWord_rejectFlags {s : State} (h : s.phase = .idle) : (statusWord s.rejectFlags).extractLsb' 0 7 = 0x46 := by
  rw [statusWord_low, (busy_eq_false s.rejectFlags).2 h, rejectFlags_cause, rejectFlags_err, rejectFlags_done]
  decide

/-! ### One engine step, by its draw and its phase (R83) -/

theorem engineStep_timeout {d : Draw} {s : State} (hp : s.phase ≠ .idle) (ht : d.timeout = true) :
    engineStep d s = timeoutAbort d.abortAt s := by
  rw [engineStep, if_pos ((busy_eq_true s).2 hp), if_pos ht]

theorem engineStep_noTimeout {d : Draw} {s : State} (hp : s.phase ≠ .idle) (ht : d.timeout = false) :
    engineStep d s = phaseStep d s := by
  rw [engineStep, if_pos ((busy_eq_true s).2 hp), ht, if_neg Bool.false_ne_true]

theorem phaseStep_start (d : Draw) {s : State} (hp : s.phase = .start) : phaseStep d s = stepStart s := by
  rw [phaseStep, hp]

theorem phaseStep_addr (d : Draw) {s : State} (hp : s.phase = .addr) : phaseStep d s = stepAddr d.ack s := by
  rw [phaseStep, hp]

theorem phaseStep_stop (d : Draw) {s : State} (hp : s.phase = .stop) : phaseStep d s = stepStop s := by
  rw [phaseStep, hp]

/-! ### Completion and the first cause (R88, R90, R91) -/

theorem latches_eq (s : State) : s.latches = (s.curRw && decide (s.curCause = .none) && decide (s.curLen = 6)) := by
  have hlen : s.curLen.toNat = Config.reportLen ↔ s.curLen = 6 := by
    rw [← BitVec.toNat_inj]; rfl
  rw [State.latches, State.ok, decide_eq_decide.2 hlen]

/-- The STOP step (R88, R90, R126), field by field. -/
theorem stepStop_eq (s : State) :
    stepStop s = { s with trace := s.trace ++ [.p], sclLow := false, sdaLow := false, lines := stopLines, done := true, err := !s.ok, cause := s.curCause, rxValid := s.curRw && s.ok, report := if s.latches then reportOf s.rxbuf else s.report, reportValid := if s.latches then true else s.reportValid, phase := .idle } := by
  have hvalid : (s.reportValid || s.latches) = if s.latches then true else s.reportValid := by cases s.latches <;> simp
  rw [← hvalid]
  exact complete_eq (s.emit .p)

/-- A cause is recorded by the step that goes to STOP, and nowhere else is one in flight (R85, R86, R91). -/
theorem phase_eq_stop_of_curCause {s : State} (hinv : MachineInv s) (hbusy : s.phase ≠ .idle) (hc : s.curCause ≠ .none) :
    s.phase = .stop := by
  cases hp : s.phase <;> simp only [MachineInv, hp] at hinv
  case idle => exact absurd hp hbusy
  case stop => rfl
  case start => obtain ⟨-, -, -, hnone⟩ := hinv; exact absurd hnone hc
  case addr => obtain ⟨-, -, hnone⟩ := hinv; exact absurd hnone hc
  case wdata | rdata => obtain ⟨-, -, hnone, -⟩ := hinv; exact absurd hnone hc

end Sys2Proof.Machine

section

open Sys2Proof Sys2Proof.Machine

/-- Settles O23: an illegal word has the one issue that writes the four flags, and a write while BUSY only raises the fault (R82, R154). -/
theorem illegalWordIsRejectedAtOnce : Obligations.IllegalWordIsRejectedAtOnce := by
  refine fun v s hv => ⟨fun h => ?_, fun h => ?_⟩
  · exact ⟨_, exec_cmdRejected_idle v h, rfl, by rw [exec_wrCmd_idle v h, issue_illegal _ hv], statusWord_rejectFlags h⟩
  · exact ⟨congrArg Host.Outcome.next (commandWrite_busy v issueRejected s h), congrArg Host.Outcome.next (commandWrite_busy v (issue v) s h)⟩

/-- Settles O26 (R84). -/
theorem startStepEmitsStart : Obligations.StartStepEmitsStart := by
  intro d s hp
  have hbusy : s.phase ≠ .idle := by simp [hp]
  refine ⟨engineStep_timeout hbusy, fun ht => ?_⟩
  rw [engineStep_noTimeout hbusy ht, phaseStep_start d hp]
  rfl

/-- Settles O27: a case for each acknowledge and, after an ACK, for each direction (R85). -/
theorem addrStepFollowsTheAcknowledge : Obligations.AddrStepFollowsTheAcknowledge := by
  intro d s hp
  have hbusy : s.phase ≠ .idle := by simp [hp]
  refine ⟨engineStep_timeout hbusy, fun ht => ?_⟩
  rw [engineStep_noTimeout hbusy ht, phaseStep_addr d hp]
  cases ha : d.ack with
  | nack => rfl
  | ack =>
    simp only [stepAddr, reduceCtorEq, if_false]
    split <;> rfl

/-- Settles O30: the completion's latch is a READ of six bytes without a cause (R88, R90, R126). -/
theorem stopStepCompletes : Obligations.StopStepCompletes := by
  intro d s hp
  have hbusy : s.phase ≠ .idle := by simp [hp]
  refine ⟨engineStep_timeout hbusy, fun ht => ?_⟩
  rw [engineStep_noTimeout hbusy ht, phaseStep_stop d hp, stepStop_eq, latches_eq]
  rfl

/-- Settles O32: a recorded cause is in flight only at STOP, where both steps complete the command with it (R88, R89, R91). -/
theorem firstCauseWins : Obligations.FirstCauseWins := by
  intro d s hinv hp hc
  have hok : s.ok = false := decide_eq_false hc
  have hstop : s.phase = .stop := phase_eq_stop_of_curCause hinv hp hc
  cases ht : d.timeout with
  | true => simp [engineStep_timeout hp ht, timeoutAbort_eq, hok]
  | false => simp [engineStep_noTimeout hp ht, phaseStep_stop d hstop, stepStop_eq, hok]

end

/-! PROOFS. The fields of the report decoder of 42_report_decoder.md (R117 to R123). -/

namespace Sys2Proof.Machine

/-- The high byte is widened before it moves up, so its two freed bits hold exactly the two bits of byte 5 and nothing is lost above. -/
theorem accelField_toNat (hi b5 : Byte) (k : Nat) : (accelField hi b5 k).toNat = hi.toNat * 4 + b5.toNat / 2 ^ k % 4 := by
  have hlow : b5.toNat / 2 ^ k % 4 < 2 ^ 2 := Nat.mod_lt _ (by decide)
  calc (accelField hi b5 k).toNat
      = hi.toNat <<< 2 ||| b5.toNat / 2 ^ k % 4 := by
        rw [accelField_eq_append, BitVec.toNat_append, BitVec.extractLsb'_toNat, Nat.shiftRight_eq_div_pow]
    _ = hi.toNat * 4 + b5.toNat / 2 ^ k % 4 := by
        rw [← Nat.shiftLeft_add_eq_or_of_lt hlow, Nat.shiftLeft_eq]

/-- The top pair of byte 5 needs no mask: nothing stands above it (R121). -/
theorem accelField_toNat_top (hi b5 : Byte) : (accelField hi b5 6).toNat = hi.toNat * 4 + b5.toNat / 64 := by
  have htop : b5.toNat / 64 < 4 := Nat.div_lt_of_lt_mul b5.isLt
  exact (accelField_toNat hi b5 6).trans (congrArg (hi.toNat * 4 + ·) (Nat.mod_eq_of_lt htop))

end Sys2Proof.Machine

section

open Sys2Proof Sys2Proof.Machine

/-- Settles O38: the analog bytes and the buttons are read off the decoder, and each axis is its high byte above its own two bits of
byte 5, which as a number is four times that byte plus them (R117 to R123). -/
theorem decoderUnpacksEachField : Obligations.DecoderUnpacksEachField := fun r =>
  ⟨rfl, rfl, accelField_eq_append r.b2 r.b5 2, accelField_toNat r.b2 r.b5 2, accelField_eq_append r.b3 r.b5 4,
    accelField_toNat r.b3 r.b5 4, accelField_eq_append r.b4 r.b5 6, accelField_toNat_top r.b4 r.b5, rfl, rfl⟩

end

/-! PROOFS. The host faults of 60_exceptions.md: the table of R156. -/

namespace Sys2Proof.Machine

/-! ### What an access that starts without a fault mark does to the mark (R29, R157) -/

/-- From `s` to `t` the mark becomes `o`, and if that is a fault then nothing else of the block changed. -/
def MarksOnly (o : Option Fault) (s t : State) : Prop :=
  (t.fault ≠ none → t = { s with fault := t.fault, reply := none }) ∧ t.fault = o

theorem raise_marksOnly (f : Fault) {s : State} (h : s.fault = none) : MarksOnly (some f) s (s.raise f) :=
  ⟨fun _ => rfl, raise_fault_none f s h⟩

theorem marksOnly_of_fault_none {s t : State} (h : t.fault = none) : MarksOnly none s t := ⟨fun hf => absurd h hf, h⟩

theorem answerIf_marksOnly (c : Bool) (f : Fault) (w : Word) {s : State} (h : s.fault = none) :
    MarksOnly (if c = false then some f else none) s (s.answerIf c f w) := by
  cases c with
  | true => exact marksOnly_of_fault_none h
  | false => exact raise_marksOnly f h

theorem writeIfIdle_marksOnly (f : Fault) (g : State → State) (hg : ∀ t, (g t).fault = t.fault) {s : State} (h : s.fault = none) :
    MarksOnly (if s.phase ≠ .idle then some f else none) s (s.writeIfIdle f g) := by
  rcases writeIfIdle_cases f g s with ⟨hp, e⟩ | ⟨hp, e⟩ <;> rw [e]
  · rw [if_neg (not_not_intro hp)]; exact marksOnly_of_fault_none ((hg s.silent).trans h)
  · rw [if_pos hp]; exact raise_marksOnly f h

theorem commandWrite_marksOnly (v : Word) (g : State → State) (hg : ∀ t, (g t).fault = t.fault) {s : State} (h : s.fault = none) :
    MarksOnly (if s.phase ≠ .idle then some .cmdWhileBusy else none) s (s.commandWrite v g) :=
  writeIfIdle_marksOnly .cmdWhileBusy _ (fun t => hg { t with cmd := v }) h

/-! ### The table (R156) -/

/-- The rows of R156 that an instruction can raise. -/
def instrFault (i : Instr) (s : State) : Option Fault :=
  match i with
  | .write _ _ | .read _ _ | .cmdRejected _ | .wrCmd _ => if s.phase ≠ .idle then some .cmdWhileBusy else none
  | .wrTxdata0 _ | .wrTxdata1 _ => if s.phase ≠ .idle then some .txWhileBusy else none
  | .rdRxdata0 | .rdRxdata1 => if s.rxValid = false then some .rxNotValid else none
  | .rdReport0 | .rdReport1 | .rdDecAnalog | .rdDecAccel | .rdDecButtons => if s.reportValid = false then some .reportNotValid else none
  | .rdCmd | .rdStatus | .rdTxdata0 | .rdTxdata1 | .wrReadOnly _ _ => none

/-- Each instruction is a guarded write, a guarded read, or has no fault to raise. -/
theorem exec_marksOnly (i : Instr) {s : State} (h : s.fault = none) : ∃ t, exec i s = .next t ∧ MarksOnly (instrFault i s) s t := by
  cases i with
  | write addr len => exact ⟨_, rfl, commandWrite_marksOnly _ (issueWrite addr len) (fun _ => rfl) h⟩
  | read addr len => exact ⟨_, rfl, commandWrite_marksOnly _ (issueRead addr len) (fun _ => rfl) h⟩
  | cmdRejected v => exact ⟨_, rfl, commandWrite_marksOnly v issueRejected (fun _ => rfl) h⟩
  | wrCmd v => exact ⟨_, rfl, commandWrite_marksOnly v (issue v) (issue_fault v) h⟩
  | wrTxdata0 v | wrTxdata1 v => exact ⟨_, rfl, writeIfIdle_marksOnly .txWhileBusy _ (fun _ => by rfl) h⟩
  | rdRxdata0 | rdRxdata1 => exact ⟨_, rfl, answerIf_marksOnly s.rxValid .rxNotValid _ h⟩
  | rdReport0 | rdReport1 | rdDecAnalog | rdDecAccel | rdDecButtons =>
    exact ⟨_, rfl, answerIf_marksOnly s.reportValid .reportNotValid _ h⟩
  | rdCmd | rdStatus | rdTxdata0 | rdTxdata1 | wrReadOnly r v => exact ⟨_, rfl, marksOnly_of_fault_none h⟩

end Sys2Proof.Machine

section

open Sys2Proof Sys2Proof.Machine

/-- Settles O16: a request that decodes raises what its instruction's guard raises, and one that does not raises the decoder's own
fault (R156, R157). -/
theorem hostFaultsAreExactlyTheTable : Obligations.HostFaultsAreExactlyTheTable := by
  intro r s h
  rcases perform_cases r s with ⟨i, hd, e⟩ | ⟨err, hd, e⟩ <;> rw [e, hd]
  · exact exec_marksOnly i h
  · cases err <;> exact ⟨_, rfl, raise_marksOnly _ h⟩

end

/-! PROOFS. Reset, 70_reset_and_hazards.md: what the platform's move leaves of the block (R171, R172). -/

namespace Sys2Proof.Machine

/-- Everything the platform's move does: the block is that of `State.reset` but for the trace and the fault mark, whatever the phase was. -/
theorem step_reset {s : State} (h : s.turn = .reset) :
    step s = .next { State.reset with trace := s.trace, fault := s.fault, lines := [released], reply := s.reply, host := s.loseSession.host, env := s.passTurn.env } := by
  rw [step, h]
  rfl

/-- STATUS depends only on the phase, the flags and CAUSE (R68): idle, clear and without a cause it reads all zero. -/
theorem statusWord_eq_zero {s : State} (hp : s.phase = .idle) (hd : s.done = false) (he : s.err = false) (hc : s.cause = .none)
    (hrx : s.rxValid = false) (hrep : s.reportValid = false) : statusWord s = 0 := by
  rw [statusWord, (busy_eq_false s).2 hp, hd, he, hc, hrx, hrep]
  decide

end Sys2Proof.Machine

section

open Sys2Proof Sys2Proof.Machine

/-- Settles O55: the state after the platform's move is written out by `step_reset`, each element is read off it, and STATUS is zero
because every flag it packs is (R171, R172). -/
theorem resetRestoresTheBlock : Obligations.ResetRestoresTheBlock := by
  intro s h
  have buffers (j : BitVec 3) : State.reset.txbuf.get j = 0 ∧ State.reset.rxbuf.get j = 0 := ⟨get_zero j, get_zero j⟩
  exact ⟨_, step_reset h, rfl, rfl, rfl, rfl, rfl, rfl, buffers, rfl, rfl, rfl, rfl, rfl, rfl, rfl, rfl, rfl, rfl, rfl,
    statusWord_eq_zero rfl rfl rfl rfl rfl rfl⟩

end

/-! PROOFS. Decoding and encoding both ways (R34, R61, R66), the checks of an access (R35, R37, R158), and the CMD rows as the CMD write of their words (R79). -/

namespace Sys2Proof

/-! ### Registers and accesses (R34, R35, R37) -/

theorem decode_readOf (r : Reg) : decode (readOf r) = .ok (readInstr r) := decode_mapped r .read

theorem decode_writeOf (r : Reg) (v : Word) : decode (writeOf r v) = .ok (writeInstr v r) := decode_mapped r (.write v)

theorem encode_regInstr (r : Reg) (d : AccessDir) : encode (regInstr r d) = .access ⟨r.offset, 4, d⟩ := by
  cases d <;> cases r <;> rfl

theorem wellFormed_regInstr (r : Reg) (d : AccessDir) : WellFormed (regInstr r d) = true := by
  cases d <;> cases r <;> rfl

theorem aligned_iff (a : HostAccess) : a.aligned = true ↔ a.width = 4 ∧ a.offset % 4 = 0 := by
  simp [HostAccess.aligned]

theorem decode_access_misaligned {a : HostAccess} (h : a.width ≠ 4 ∨ a.offset % 4 ≠ 0) : decode (.access a) = .error .badAccess := by
  have hbad : ¬ a.aligned = true := by
    rw [aligned_iff]; omega
  rw [decode, decodeAccess, if_neg hbad]

/-- The decoding of an aligned access to a mapped offset (R34, R158). -/
theorem decode_access_regAt_some {a : HostAccess} {r : Reg} (hw : a.width = 4) (ho : a.offset % 4 = 0) (hr : regAt a.offset = some r) :
    decode (.access a) = .ok (regInstr r a.dir) := by
  simp only [decode, decodeAccess, if_pos ((aligned_iff a).2 ⟨hw, ho⟩), hr]

/-- The decoding of an aligned access to an offset the map does not list (R37, R158). -/
theorem decode_access_regAt_none {a : HostAccess} (hw : a.width = 4) (ho : a.offset % 4 = 0) (hr : regAt a.offset = none) :
    decode (.access a) = .error .unmapped := by
  simp only [decode, decodeAccess, if_pos ((aligned_iff a).2 ⟨hw, ho⟩), hr]

/-- The offsets of the map (R34). -/
def mappedOffsets : List Nat := [0x00, 0x04, 0x08, 0x0C, 0x10, 0x14, 0x18, 0x1C, 0x20, 0x24, 0x28]

theorem offset_mem_mappedOffsets (r : Reg) : r.offset ∈ mappedOffsets := by
  cases r <;> decide

theorem regAt_eq_none {off : Nat} (h : off ∉ mappedOffsets) : regAt off = none := by
  cases hr : regAt off with
  | none => rfl
  | some r => exact absurd (regAt_eq_some off r hr ▸ offset_mem_mappedOffsets r) h

/-- Every aligned offset up to the last of the map is mapped (R34). -/
theorem exists_regAt_of_le {off : Nat} (ha : off % 4 = 0) (hle : off ≤ 0x28) : ∃ r, regAt off = some r := by
  obtain ⟨k, rfl⟩ := Nat.dvd_of_mod_eq_zero ha
  have hk : k ≤ 10 := by omega
  interval_cases k <;> exact ⟨_, rfl⟩

theorem decode_access_unmapped {a : HostAccess} (hw : a.width = 4) (ho : a.offset % 4 = 0)
    (h : a.offset ∉ mappedOffsets) : decode (.access a) = .error .unmapped :=
  decode_access_regAt_none hw ho (regAt_eq_none h)

/-- An access that decodes is the 32-bit access to a register, and its instruction is that register's. -/
theorem access_of_decode_ok {a : HostAccess} {i : Instr} (h : decode (.access a) = .ok i) :
    ∃ r, a = ⟨r.offset, 4, a.dir⟩ ∧ i = regInstr r a.dir := by
  by_cases ha : a.width = 4 ∧ a.offset % 4 = 0
  · obtain ⟨hw, ho⟩ := ha
    cases hr : regAt a.offset with
    | none => rw [decode_access_regAt_none hw ho hr] at h; cases h
    | some r =>
      rw [decode_access_regAt_some hw ho hr] at h
      cases h
      exact ⟨r, by rw [← regAt_eq_some a.offset r hr, ← hw], rfl⟩
  · rw [decode_access_misaligned (by omega)] at h
    cases h

/-! ### CMD words (R61, R66) -/

theorem cmdLegal_cmdWord (rw : Bool) (addr : BitVec 7) (len : BitVec 4) : cmdLegal (cmdWord rw addr len) = lenOk len := by
  obtain ⟨-, -, hlen, hrsv⟩ := cmdWord_fields rw addr len
  rw [cmdLegal, hlen, hrsv]
  rfl

/-- A word whose RSV is clear is the CMD word of its other fields. -/
theorem cmdWord_of_fields {v : Word} (h : cmdRsv v = 0#20) : cmdWord (cmdRw v) (cmdAddr v) (cmdLen v) = v := by
  rw [cmdWord, ← h, ← cmd_eq_fields]

theorem decode_cmdWord (rw : Bool) (addr : BitVec 7) {len : BitVec 4} (h : lenOk len = true) :
    decode (.command (cmdWord rw addr len)) = .ok (if rw then .read addr len else .write addr len) := by
  obtain ⟨haddr, hrw, hlen, -⟩ := cmdWord_fields rw addr len
  rw [decode_command_legal ((cmdLegal_cmdWord rw addr len).trans h), haddr, hrw, hlen]

/-- The three ways a CMD word decodes (R66): the READ or the WRITE whose CMD word it is, or a rejected word. -/
theorem decode_command_cases {v : Word} {i : Instr} (h : decode (.command v) = .ok i) :
    (cmdLegal v = true ∧ cmdRw v = true ∧ i = .read (cmdAddr v) (cmdLen v) ∧ cmdWord true (cmdAddr v) (cmdLen v) = v)
      ∨ (cmdLegal v = true ∧ cmdRw v = false ∧ i = .write (cmdAddr v) (cmdLen v) ∧ cmdWord false (cmdAddr v) (cmdLen v) = v)
      ∨ (cmdLegal v = false ∧ i = .cmdRejected v) := by
  cases hl : cmdLegal v with
  | false =>
    rw [decode_command_illegal hl] at h
    cases h
    exact .inr (.inr ⟨rfl, rfl⟩)
  | true =>
    obtain ⟨hrsv, -, -⟩ := (cmdLegal_iff v).1 hl
    have hword := cmdWord_of_fields hrsv
    rw [decode_command_legal hl] at h
    cases hr : cmdRw v with
    | true => rw [hr] at h hword; cases h; exact .inl ⟨rfl, rfl, rfl, hword⟩
    | false => rw [hr] at h hword; cases h; exact .inr (.inl ⟨rfl, rfl, rfl, hword⟩)

/-! ### Both ways (R34, R61, R66) -/

theorem decode_encode {i : Instr} (h : WellFormed i = true) : decode (encode i) = .ok i := by
  cases i with
  | write addr len => exact decode_cmdWord false addr h
  | read addr len => exact decode_cmdWord true addr h
  | cmdRejected v => exact decode_command_illegal ((wellFormed_cmdRejected_iff v).1 h)
  | wrCmd v => exact decode_writeOf .cmd v
  | wrTxdata0 v => exact decode_writeOf .txdata0 v
  | wrTxdata1 v => exact decode_writeOf .txdata1 v
  | wrReadOnly r v => exact (decode_writeOf r v).trans (congrArg Except.ok (Machine.writeInstr_readOnly v h))
  | rdCmd => exact decode_readOf .cmd
  | rdStatus => exact decode_readOf .status
  | rdTxdata0 => exact decode_readOf .txdata0
  | rdTxdata1 => exact decode_readOf .txdata1
  | rdRxdata0 => exact decode_readOf .rxdata0
  | rdRxdata1 => exact decode_readOf .rxdata1
  | rdReport0 => exact decode_readOf .report0
  | rdReport1 => exact decode_readOf .report1
  | rdDecAnalog => exact decode_readOf .decAnalog
  | rdDecAccel => exact decode_readOf .decAccel
  | rdDecButtons => exact decode_readOf .decButtons

theorem wellFormed_of_decode {r : Request} {i : Instr} (h : decode r = .ok i) : WellFormed i = true := by
  cases r with
  | access a =>
    obtain ⟨r, -, rfl⟩ := access_of_decode_ok h
    exact wellFormed_regInstr r a.dir
  | command v =>
    have hlen : cmdLegal v = true → lenOk (cmdLen v) = true := fun hl => (lenOk_iff _).2 ((cmdLegal_iff v).1 hl).2
    rcases decode_command_cases h with ⟨hl, -, rfl, -⟩ | ⟨hl, -, rfl, -⟩ | ⟨hl, rfl⟩
    · exact hlen hl
    · exact hlen hl
    · exact (wellFormed_cmdRejected_iff v).2 hl

theorem encode_of_decode {r : Request} {i : Instr} (h : decode r = .ok i) : encode i = r := by
  cases r with
  | access a =>
    obtain ⟨r, ha, rfl⟩ := access_of_decode_ok h
    rw [encode_regInstr, ← ha]
  | command v =>
    rcases decode_command_cases h with ⟨-, -, rfl, hword⟩ | ⟨-, -, rfl, hword⟩ | ⟨-, rfl⟩
    · exact congrArg Request.command hword
    · exact congrArg Request.command hword
    · rfl

end Sys2Proof

namespace Sys2Proof.Machine

/-! ### The issue of a word is that of its row (R66, R79) -/

theorem issue_of_read {v : Word} (hl : cmdLegal v = true) (hr : cmdRw v = true) : issue v = issueRead (cmdAddr v) (cmdLen v) := by
  funext s
  rw [issue, if_pos hl, if_pos hr]

theorem issue_of_write {v : Word} (hl : cmdLegal v = true) (hr : cmdRw v = false) : issue v = issueWrite (cmdAddr v) (cmdLen v) := by
  funext s
  rw [issue, if_pos hl, hr, if_neg Bool.false_ne_true]

theorem issue_of_rejected {v : Word} (hl : cmdLegal v = false) : issue v = issueRejected := by
  funext s
  rw [issue, hl, if_neg Bool.false_ne_true]

/-! ### A request of the host (R54, R157) -/

theorem perform_ok {r : Request} {i : Instr} (s : State) (h : decode r = .ok i) : perform r s = exec i s := by
  rw [perform, h]

theorem perform_error {r : Request} {e : DecodeError} (s : State) (h : decode r = .error e) :
    perform r s = .next (s.raise (faultOfDecode e)) := by
  rw [perform, h]

theorem step_request {s : State} {r : Request} {rest : List HostOp} (ht : s.turn = .host) (hp : s.host.program = .request r :: rest) :
    step s = perform r s.passTurn.popOp := step_host s (.request r) rest ht hp

/-- The host's next request, its operation and its turn used up, is the state the instruction runs in. -/
theorem passTurn_popOp_eq {s : State} {op : HostOp} {rest : List HostOp} (hp : s.host.program = op :: rest) :
    s.passTurn.popOp =
      { s with host := { s.host with program := rest }, env := { s.env with turns := s.env.turns.tail, tick := s.env.tick + 1 } } := by
  simp [State.popOp, State.passTurn, hp]

end Sys2Proof.Machine

section

open Sys2Proof Sys2Proof.Machine

/-- Settles O1, by the constructors: a CMD word gives back its fields, and a register's offset its register (R34, R61, R66). -/
theorem decodeInvertsEncode : Obligations.DecodeInvertsEncode := fun _ h => decode_encode h

/-- Settles O2: an access that decodes is the one access of its register, and a legal CMD word is the word of its own fields (R34, R61, R66). -/
theorem encodeInvertsDecode : Obligations.EncodeInvertsDecode := fun _ _ h => ⟨wellFormed_of_decode h, encode_of_decode h⟩

/-- Settles O4: the alignment check comes before the map, and the listed rows are the registers' own, read and written (R34 to R37, R158). -/
theorem accessChecksComeInOrder : Obligations.AccessChecksComeInOrder := by
  intro a
  refine ⟨decode_access_misaligned, fun hw ho hgt => ?_, fun hw ho hle => ?_, fun v off rd wr hrow => ?_⟩
  · have hle : ∀ off ∈ mappedOffsets, off ≤ 0x28 := by decide
    exact decode_access_unmapped hw ho (fun hmem => Nat.not_le_of_lt hgt (hle _ hmem))
  · obtain ⟨r, hr⟩ := exists_regAt_of_le ho hle
    exact ⟨regInstr r a.dir, decode_access_regAt_some hw ho hr, wellFormed_regInstr r a.dir⟩
  · have hregs : (off, rd, wr) ∈ [Reg.cmd, .status, .txdata0, .txdata1, .rxdata0, .rxdata1, .report0, .report1, .decAnalog, .decAccel,
        .decButtons].map (fun r => (r.offset, readInstr r, writeInstr v r)) := hrow
    obtain ⟨r, -, hr⟩ := List.mem_map.1 hregs
    cases hr
    exact ⟨decode_readOf r, decode_writeOf r v⟩

/-- Settles O5: each word is the CMD word of the fields it stands for, or names its register's offset (R34, R61, R66). -/
theorem sampleWordsDecode : Obligations.SampleWordsDecode :=
  ⟨decode_cmdWord false 0x52 (len := 1) rfl, decode_cmdWord true 0x52 (len := 6) rfl, decode_command_illegal rfl,
    decode_writeOf .txdata0 0x55F0, decode_readOf .decAccel, decode_access_misaligned (.inl (by decide))⟩

/-- Settles O15: the request fails its check in the decoder, and `perform` then only raises the fault (R35, R37, R157). -/
theorem badAndUnmappedAccessesFault : Obligations.BadAndUnmappedAccessesFault := by
  intro a rest s ht hp
  rw [step_request ht hp]
  exact ⟨fun h => perform_error _ (decode_access_misaligned h), fun hw ho h => perform_error _ (decode_access_unmapped hw ho h)⟩

/-- Settles O25: the word is the CMD word of its row, and its issue is the row's own (R79). -/
theorem cmdWriteAgreesWithItsRow : Obligations.CmdWriteAgreesWithItsRow := by
  intro v i s h
  rcases decode_command_cases h with ⟨hl, hr, rfl, hword⟩ | ⟨hl, hr, rfl, hword⟩ | ⟨hl, rfl⟩
  · rw [exec, exec, execWrCmd, execRead, hword, issue_of_read hl hr]
  · rw [exec, exec, execWrCmd, execWrite, hword, issue_of_write hl hr]
  · rw [exec, exec, execWrCmd, execCmdRejected, issue_of_rejected hl]

/-- Settles O44 (R12, R54, R66). -/
theorem stepRunsTheDecodedInstruction : Obligations.StepRunsTheDecodedInstruction := by
  intro s r i rest ht hp hd
  exact ⟨wellFormed_of_decode hd, by rw [step_request ht hp, perform_ok _ hd, passTurn_popOp_eq hp]⟩

/-- Settles O45: the placed turn and request are the first of their lists, and the step takes both off again. -/
theorem fetchWordIsRunNext : Obligations.FetchWordIsRunNext := by
  intro s nbits w i h
  have hd : decode (requestOfTable nbits w) = .ok i := by
    unfold decodeTableWord at h
    split at h
    · next j hj => cases h; exact hj
    · cases h
  rw [step_request (s := s.withFetchWord nbits w) rfl rfl, perform_ok _ hd]
  rfl

end

/-! PROOFS. The accesses of 20_memory.md and the issues of 40_transactions.md section 2: what they leave alone (R79, R93), what RX_VALID hides (R45), and the state after an issue (R80, R81). -/

namespace Sys2Proof.Machine

/-! ### What no instruction touches (R79, R93) -/

/-- An instruction keeps the bus, the report, the host agent and the model's inputs, and while BUSY everything but the reply and the mark. -/
theorem exec_frame {i : Instr} {s t : State} (h : exec i s = .next t) :
    (s.phase ≠ .idle → SameButReply s t)
      ∧ t.trace = s.trace ∧ t.lines = s.lines ∧ t.sclLow = s.sclLow ∧ t.sdaLow = s.sdaLow ∧ t.report = s.report
      ∧ t.reportValid = s.reportValid ∧ t.host = s.host ∧ t.env = s.env := by
  rcases exec_cases i s t h with e | ⟨hp, _, _, _, e⟩ | ⟨hp, _, _, _, _, e⟩ | ⟨hp, _, _, _, _, e⟩ | ⟨hp, _, e⟩
  · exact ⟨fun _ => e, by rw [e], by rw [e], by rw [e], by rw [e], by rw [e], by rw [e], by rw [e], by rw [e]⟩
  all_goals
    subst e
    exact ⟨fun hb => absurd hp hb, rfl, rfl, rfl, rfl, rfl, rfl, rfl, rfl⟩

/-! ### What RX_VALID hides (R45, R87) -/

/-- From a state with RX_VALID = 0 the operation leads to one, and what it does to everything but RXBUF does not depend on RXBUF. -/
def HidesRxbuf (f : State → State) : Prop :=
  ∀ (s : State) (b : Buf), s.rxValid = false → (f s).rxValid = false ∧ SameButRxbuf (f s) (f { s with rxbuf := b })

theorem writeIfIdle_hidesRxbuf (f : Fault) {g : State → State} (hg : HidesRxbuf g) : HidesRxbuf (State.writeIfIdle f g) := by
  intro s b h
  by_cases hp : s.phase = .idle
  · rw [writeIfIdle_idle f g hp, writeIfIdle_idle f g (s := { s with rxbuf := b }) hp]
    exact hg s.silent b h
  · rw [writeIfIdle_busy f g hp, writeIfIdle_busy f g (s := { s with rxbuf := b }) hp]
    exact ⟨h, rfl⟩

theorem commandWrite_hidesRxbuf (v : Word) {g : State → State} (hg : HidesRxbuf g) : HidesRxbuf (State.commandWrite v g) :=
  writeIfIdle_hidesRxbuf .cmdWhileBusy (fun s b h => hg { s with cmd := v } b h)

theorem issueWrite_hidesRxbuf (addr : BitVec 7) (len : BitVec 4) : HidesRxbuf (issueWrite addr len) := fun _ _ _ => ⟨rfl, rfl⟩

theorem issueRead_hidesRxbuf (addr : BitVec 7) (len : BitVec 4) : HidesRxbuf (issueRead addr len) := fun _ _ _ => ⟨rfl, rfl⟩

theorem issueRejected_hidesRxbuf : HidesRxbuf issueRejected := fun _ _ _ => ⟨rfl, rfl⟩

theorem issue_hidesRxbuf (v : Word) : HidesRxbuf (issue v) := by
  cases hl : cmdLegal v with
  | false => rw [issue_of_rejected hl]; exact issueRejected_hidesRxbuf
  | true =>
    cases hr : cmdRw v with
    | true => rw [issue_of_read hl hr]; exact issueRead_hidesRxbuf _ _
    | false => rw [issue_of_write hl hr]; exact issueWrite_hidesRxbuf _ _

/-- A read whose guard and word do not look at RXBUF. -/
theorem answerIf_hidesRxbuf {valid : State → Bool} (f : Fault) {word : State → Word} (hv : ∀ s b, valid { s with rxbuf := b } = valid s)
    (hw : ∀ s b, word { s with rxbuf := b } = word s) : HidesRxbuf (fun s => s.answerIf (valid s) f (word s)) := by
  intro s b h
  simp only [hv, hw]
  cases valid s <;> exact ⟨h, rfl⟩

/-- The RXDATA reads look at RXBUF only behind their guard. -/
theorem answerIf_rxValid_hidesRxbuf (word : State → Word) : HidesRxbuf (fun s => s.answerIf s.rxValid .rxNotValid (word s)) := by
  intro s b h
  have raises (t : State) (ht : t.rxValid = false) : t.answerIf t.rxValid .rxNotValid (word t) = t.raise .rxNotValid := by
    rw [ht]; rfl
  beta_reduce
  rw [raises s h, raises { s with rxbuf := b } h]
  exact ⟨h, rfl⟩

/-- Every instruction is an operation that hides RXBUF. -/
theorem exec_hidesRxbuf (i : Instr) : ∃ f, (∀ s, exec i s = .next (f s)) ∧ HidesRxbuf f := by
  cases i with
  | write addr len => exact ⟨_, fun _ => rfl, commandWrite_hidesRxbuf _ (issueWrite_hidesRxbuf addr len)⟩
  | read addr len => exact ⟨_, fun _ => rfl, commandWrite_hidesRxbuf _ (issueRead_hidesRxbuf addr len)⟩
  | cmdRejected v => exact ⟨_, fun _ => rfl, commandWrite_hidesRxbuf v issueRejected_hidesRxbuf⟩
  | wrCmd v => exact ⟨_, fun _ => rfl, commandWrite_hidesRxbuf v (issue_hidesRxbuf v)⟩
  | wrTxdata0 v => exact ⟨_, fun _ => rfl, writeIfIdle_hidesRxbuf _ (fun _ _ h => ⟨h, rfl⟩)⟩
  | wrTxdata1 v => exact ⟨_, fun _ => rfl, writeIfIdle_hidesRxbuf _ (fun _ _ h => ⟨h, rfl⟩)⟩
  | rdRxdata0 => exact ⟨_, fun _ => rfl, answerIf_rxValid_hidesRxbuf _⟩
  | rdRxdata1 => exact ⟨_, fun _ => rfl, answerIf_rxValid_hidesRxbuf _⟩
  | rdReport0 | rdReport1 | rdDecAnalog | rdDecAccel | rdDecButtons =>
    exact ⟨_, fun _ => rfl, answerIf_hidesRxbuf _ (fun _ _ => rfl) (fun _ _ => rfl)⟩
  | rdCmd | rdStatus | rdTxdata0 | rdTxdata1 | wrReadOnly r v => exact ⟨_, fun _ => rfl, fun _ _ h => ⟨h, rfl⟩⟩

/-! ### The issue of a command (R80, R81) -/

theorem exec_write_idle (addr : BitVec 7) (len : BitVec 4) {s : State} (h : s.phase = .idle) :
    exec (.write addr len) s = .next (issueWrite addr len { s with cmd := cmdWord false addr len, reply := none }) :=
  congrArg Host.Outcome.next (commandWrite_idle _ (issueWrite addr len) s h)

theorem exec_read_idle (addr : BitVec 7) (len : BitVec 4) {s : State} (h : s.phase = .idle) :
    exec (.read addr len) s = .next (issueRead addr len { s with cmd := cmdWord true addr len, reply := none }) :=
  congrArg Host.Outcome.next (commandWrite_idle _ (issueRead addr len) s h)

end Sys2Proof.Machine

section

open Sys2Proof Sys2Proof.Machine

/-- Settles O10: both reads are guarded by RX_VALID, and the words are RXBUF lane by lane (R45, R48). -/
theorem rxdataReadNeedsRxValid : Obligations.RxdataReadNeedsRxValid := by
  refine fun s => ⟨fun h => ?_, fun h => ?_⟩
  · exact ⟨s.rxbuf.low, s.rxbuf.high, exec_readInstr_valid .rxdata0 h, exec_readInstr_valid .rxdata1 h,
      fun _ hn => ⟨lane_low s.rxbuf hn, lane_high s.rxbuf hn⟩⟩
  · exact ⟨exec_readInstr_invalid .rxdata0 h, exec_readInstr_invalid .rxdata1 h⟩

/-- Settles O18 (R79, R93). -/
theorem noAccessAltersACommandInFlight : Obligations.NoAccessAltersACommandInFlight := fun _ _ _ h => exec_frame h

/-- Settles O19: RXBUF is read only behind RX_VALID, and no instruction but a completed READ sets that (R45, R87). -/
theorem unreadableBytesStayUnreadable : Obligations.UnreadableBytesStayUnreadable := by
  intro i s t hst hrx
  obtain ⟨f, hf, hhide⟩ := exec_hidesRxbuf i
  obtain ⟨hrx', hsame⟩ := hhide s t.rxbuf hrx
  rw [← (show t = { s with rxbuf := t.rxbuf } from hst)] at hsame
  exact ⟨f s, f t, hf s, hf t, hsame, hrx'⟩

/-- Settles O20: the four forms are the one guarded CMD write, whose busy check comes first (R40, R158). -/
theorem cmdWriteWhileBusyFaults : Obligations.CmdWriteWhileBusyFaults := fun addr len v s h =>
  ⟨congrArg Host.Outcome.next (commandWrite_busy _ (issueWrite addr len) s h),
    congrArg Host.Outcome.next (commandWrite_busy _ (issueRead addr len) s h),
    congrArg Host.Outcome.next (commandWrite_busy v issueRejected s h), congrArg Host.Outcome.next (commandWrite_busy v (issue v) s h)⟩

/-- Settles O21 (R80). -/
theorem writeIssueStartsTheEngine : Obligations.WriteIssueStartsTheEngine := fun addr len _ h _ _ => exec_write_idle addr len h

/-- Settles O22: RXBUF becomes the buffer of zero bytes (R81). -/
theorem readIssueClearsRxbuf : Obligations.ReadIssueClearsRxbuf := fun addr len _ h _ _ =>
  ⟨Buf.zero, get_zero, exec_read_idle addr len h⟩

end

/-! PROOFS. The engine's payload steps (R86, R87) and its timeout (R89), and the invariants of the reachable states (R70, R81, R86, R91, R101). -/

namespace Sys2Proof.Machine

/-! ### The payload steps and the timeout (R86, R87, R89) -/

theorem phaseStep_wdata (d : Draw) {s : State} (hp : s.phase = .wdata) : phaseStep d s = stepWdata d.ack s := by
  rw [phaseStep, hp]

theorem phaseStep_rdata (d : Draw) {s : State} (hp : s.phase = .rdata) : phaseStep d s = stepRdata d.byte s := by
  rw [phaseStep, hp]

/-- The next index without its width (R86, R87): below a length of at most 8 it does not wrap. -/
theorem toNat_idx_add_one {s : State} (hlt : s.idx.toNat < s.curLen.toNat) (hle : s.curLen.toNat ≤ 8)
    (hlast : s.idx.toNat + 1 ≠ s.curLen.toNat) : (s.idx + 1).toNat = s.idx.toNat + 1 := by
  have hbound : s.idx.toNat + 1 < 8 := by omega
  rw [BitVec.toNat_add]
  exact Nat.mod_eq_of_lt hbound

/-- After a byte that is not the last the next index is in range again. -/
theorem idx_add_one_lt {s : State} (hlt : s.idx.toNat < s.curLen.toNat) (hle : s.curLen.toNat ≤ 8)
    (hlast : s.idx.toNat + 1 ≠ s.curLen.toNat) : (s.idx + 1).toNat < s.curLen.toNat := by
  have hnext := toNat_idx_add_one hlt hle hlast
  omega

theorem nextByte_last {s : State} (h : s.idx.toNat + 1 = s.curLen.toNat) : s.nextByte = { s with phase := .stop } := by
  rw [State.nextByte, State.lastByte, decide_eq_true h, if_pos rfl]

theorem nextByte_notLast {s : State} (h : s.idx.toNat + 1 ≠ s.curLen.toNat) : s.nextByte = { s with idx := s.idx + 1 } := by
  rw [State.nextByte, State.lastByte, decide_eq_false h, if_neg Bool.false_ne_true]

theorem readAck_last {s : State} (h : s.idx.toNat + 1 = s.curLen.toNat) : s.readAck = .nack := by
  rw [State.readAck, State.lastByte, decide_eq_true h, if_pos rfl]

theorem readAck_notLast {s : State} (h : s.idx.toNat + 1 ≠ s.curLen.toNat) : s.readAck = .ack := by
  rw [State.readAck, State.lastByte, decide_eq_false h, if_neg Bool.false_ne_true]

/-- The RDATA step of the last byte (R87): it is stored, answered NACK, and STOP is next. -/
theorem stepRdata_last (b : Byte) {s : State} (h : s.idx.toNat + 1 = s.curLen.toNat) :
    stepRdata b s = { s with rxbuf := s.rxbuf.set s.idx b, trace := s.trace ++ [.rx b .nack], sclLow := true, sdaLow := false, lines := rxLines .nack, phase := .stop } := by
  rw [stepRdata, readAck_last h, nextByte_last (by exact h)]
  rfl

/-- The RDATA step of any other byte (R87): it is stored, answered ACK, and the index moves on. -/
theorem stepRdata_notLast (b : Byte) {s : State} (h : s.idx.toNat + 1 ≠ s.curLen.toNat) :
    stepRdata b s = { s with rxbuf := s.rxbuf.set s.idx b, trace := s.trace ++ [.rx b .ack], sclLow := true, sdaLow := true, lines := rxLines .ack, idx := s.idx + 1 } := by
  rw [stepRdata, readAck_notLast h, nextByte_notLast (by exact h)]
  rfl

/-- The WDATA step of a byte that is answered NACK (R86). -/
theorem stepWdata_nack (s : State) :
    stepWdata .nack s = { s with trace := s.trace ++ [.tx (s.txbuf.get s.idx) .nack], sclLow := true, sdaLow := false, lines := txLines (s.txbuf.get s.idx), curCause := .dataNack, phase := .stop } := rfl

/-- The WDATA step of the last byte, acknowledged (R86). -/
theorem stepWdata_last {s : State} (h : s.idx.toNat + 1 = s.curLen.toNat) :
    stepWdata .ack s = { s with trace := s.trace ++ [.tx (s.txbuf.get s.idx) .ack], sclLow := true, sdaLow := false, lines := txLines (s.txbuf.get s.idx), phase := .stop } :=
  nextByte_last (s := s.emit _) h

/-- The WDATA step of any other byte, acknowledged (R86). -/
theorem stepWdata_notLast {s : State} (h : s.idx.toNat + 1 ≠ s.curLen.toNat) :
    stepWdata .ack s = { s with trace := s.trace ++ [.tx (s.txbuf.get s.idx) .ack], sclLow := true, sdaLow := false, lines := txLines (s.txbuf.get s.idx), idx := s.idx + 1 } :=
  nextByte_notLast (s := s.emit _) h

/-! ### The machine's invariant (R70, R86, R91, R101) -/

theorem machineInv_idle {s : State} (hp : s.phase = .idle) :
    MachineInv s ↔ s.sclLow = false ∧ s.sdaLow = false ∧ IdleStatus s := by
  rw [MachineInv, hp]

theorem machineInv_start {s : State} (hp : s.phase = .start) :
    MachineInv s ↔ InFlight s ∧ s.sclLow = false ∧ s.sdaLow = false ∧ s.curCause = .none := by
  rw [MachineInv, hp]

theorem machineInv_addr {s : State} (hp : s.phase = .addr) :
    MachineInv s ↔ InFlight s ∧ s.sclLow = true ∧ s.curCause = .none := by
  rw [MachineInv, hp]

theorem machineInv_wdata {s : State} (hp : s.phase = .wdata) :
    MachineInv s ↔ InFlight s ∧ s.sclLow = true ∧ s.curCause = .none ∧ s.curRw = false ∧ s.idx.toNat < s.curLen.toNat := by
  rw [MachineInv, hp]

theorem machineInv_rdata {s : State} (hp : s.phase = .rdata) :
    MachineInv s ↔ InFlight s ∧ s.sclLow = true ∧ s.curCause = .none ∧ s.curRw = true ∧ s.idx.toNat < s.curLen.toNat := by
  rw [MachineInv, hp]

theorem machineInv_stop {s : State} (hp : s.phase = .stop) :
    MachineInv s ↔ InFlight s ∧ s.sclLow = true
      ∧ (s.curCause = .none ∨ s.curCause = .addrNack ∨ (s.curCause = .dataNack ∧ s.curRw = false)) := by
  rw [MachineInv, hp]

theorem inFlight_len {s : State} (h : InFlight s) : 1 ≤ s.curLen.toNat ∧ s.curLen.toNat ≤ 8 := by
  obtain ⟨-, -, -, -, hlo, hhi⟩ := h
  exact ⟨hlo, hhi⟩

/-- In every phase but IDLE the status row is that of a command in flight, and a cause recorded so far is a NACK's (R70, R91). -/
theorem inFlight_of_busy {s : State} (hinv : MachineInv s) (hbusy : s.phase ≠ .idle) :
    InFlight s ∧ (s.curCause = .none ∨ s.curCause = .addrNack ∨ (s.curCause = .dataNack ∧ s.curRw = false)) := by
  cases hp : s.phase with
  | idle => exact absurd hp hbusy
  | start => obtain ⟨hf, -, -, hc⟩ := (machineInv_start hp).1 hinv; exact ⟨hf, .inl hc⟩
  | addr => obtain ⟨hf, -, hc⟩ := (machineInv_addr hp).1 hinv; exact ⟨hf, .inl hc⟩
  | wdata => obtain ⟨hf, -, hc, -⟩ := (machineInv_wdata hp).1 hinv; exact ⟨hf, .inl hc⟩
  | rdata => obtain ⟨hf, -, hc, -⟩ := (machineInv_rdata hp).1 hinv; exact ⟨hf, .inl hc⟩
  | stop => obtain ⟨hf, -, hc⟩ := (machineInv_stop hp).1 hinv; exact ⟨hf, hc⟩

/-- The invariant does not look at the reply and the fault mark. -/
theorem machineInv_of_sameButReply {s t : State} (h : SameButReply s t) (hinv : MachineInv s) : MachineInv t := by
  rw [h]; exact hinv

/-- A command accepted from the idle block is in flight at START, with both lines still released (R101, R103). -/
theorem machineInv_acceptCommand (rw : Bool) (addr : BitVec 7) {len : BitVec 4} (hlen : lenOk len = true) {s : State} (hp : s.phase = .idle)
    (hinv : MachineInv s) : MachineInv (s.acceptCommand rw addr len) := by
  obtain ⟨hscl, hsda, -⟩ := (machineInv_idle hp).1 hinv
  obtain ⟨hlo, hhi⟩ := (lenOk_iff len).1 hlen
  exact (machineInv_start rfl).2 ⟨⟨rfl, rfl, rfl, rfl, hlo, hhi⟩, hscl, hsda, rfl⟩

theorem machineInv_rejectFlags {s : State} (hp : s.phase = .idle) (hinv : MachineInv s) : MachineInv s.rejectFlags := by
  obtain ⟨hscl, hsda, -⟩ := (machineInv_idle hp).1 hinv
  exact (machineInv_idle (s := s.rejectFlags) hp).2 ⟨hscl, hsda, .inr (.inr ⟨rfl, rfl, nofun, rfl, nofun⟩)⟩

theorem exec_keeps_machineInv {i : Instr} {s t : State} (hwf : WellFormed i = true) (h : exec i s = .next t) (hinv : MachineInv s) :
    MachineInv t := by
  rcases exec_cases i s t h with e | ⟨_, v, b, _, e⟩ | ⟨hp, v, addr, len, hi, e⟩ | ⟨hp, v, addr, len, hi, e⟩ | ⟨hp, v, e⟩
  · exact machineInv_of_sameButReply e hinv
  · rw [e]; exact hinv
  · have hlen : lenOk len = true := hi.elim (fun hi => by rwa [hi] at hwf) id
    rw [e]; exact machineInv_acceptCommand false addr hlen (s := { s with cmd := v, reply := none }) hp hinv
  · have hlen : lenOk len = true := hi.elim (fun hi => by rwa [hi] at hwf) id
    rw [e]; exact machineInv_acceptCommand true addr hlen (s := { s with cmd := v, reply := none }) hp hinv
  · rw [e]; exact machineInv_rejectFlags (s := { s with cmd := v, reply := none }) hp hinv

theorem machineInv_stepAddr (a : Ack) {s : State} (hp : s.phase = .addr) (hinv : MachineInv s) : MachineInv (stepAddr a s) := by
  obtain ⟨hf, -, hc⟩ := (machineInv_addr hp).1 hinv
  obtain ⟨hpos, -⟩ := inFlight_len hf
  cases a with
  | nack => exact (machineInv_stop rfl).2 ⟨hf, rfl, .inr (.inl rfl)⟩
  | ack =>
    cases hrw : s.curRw with
    | true => exact (machineInv_rdata (by simp [stepAddr, hrw])).2 ⟨hf, rfl, hc, hrw, hpos⟩
    | false => exact (machineInv_wdata (by simp [stepAddr, hrw])).2 ⟨hf, rfl, hc, hrw, hpos⟩

theorem machineInv_stepWdata (a : Ack) {s : State} (hp : s.phase = .wdata) (hinv : MachineInv s) : MachineInv (stepWdata a s) := by
  obtain ⟨hf, -, hc, hrw, hlt⟩ := (machineInv_wdata hp).1 hinv
  obtain ⟨-, hle⟩ := inFlight_len hf
  cases a with
  | nack => exact (machineInv_stop rfl).2 ⟨hf, rfl, .inr (.inr ⟨rfl, hrw⟩)⟩
  | ack =>
    by_cases hlast : s.idx.toNat + 1 = s.curLen.toNat
    · rw [stepWdata_last hlast]
      exact (machineInv_stop rfl).2 ⟨hf, rfl, .inl hc⟩
    · rw [stepWdata_notLast hlast]
      exact (machineInv_wdata (by exact hp)).2 ⟨hf, rfl, hc, hrw, idx_add_one_lt hlt hle hlast⟩

theorem machineInv_stepRdata (b : Byte) {s : State} (hp : s.phase = .rdata) (hinv : MachineInv s) : MachineInv (stepRdata b s) := by
  obtain ⟨hf, -, hc, hrw, hlt⟩ := (machineInv_rdata hp).1 hinv
  obtain ⟨-, hle⟩ := inFlight_len hf
  by_cases hlast : s.idx.toNat + 1 = s.curLen.toNat
  · rw [stepRdata_last b hlast]
    exact (machineInv_stop rfl).2 ⟨hf, rfl, .inl hc⟩
  · rw [stepRdata_notLast b hlast]
    exact (machineInv_rdata (by exact hp)).2 ⟨hf, rfl, hc, hrw, idx_add_one_lt hlt hle hlast⟩

/-- A timeout ends the command with the cause recorded, or with TIMEOUT, and both lines released (R89, R91, R110). -/
theorem machineInv_timeoutAbort (k : Nat) {s : State} (hbusy : s.phase ≠ .idle) (hinv : MachineInv s) : MachineInv (timeoutAbort k s) := by
  obtain ⟨-, hc⟩ := inFlight_of_busy hinv hbusy
  rw [timeoutAbort_eq]
  refine (machineInv_idle rfl).2 ⟨rfl, rfl, .inr (.inr ⟨rfl, rfl, ?_, rfl, ?_⟩)⟩
  · rcases hc with hc | hc | ⟨hc, -⟩ <;> simp [State.ok, hc]
  · rcases hc with hc | hc | ⟨hc, hrw⟩
    · simp [State.ok, hc]
    · simp [State.ok, hc]
    · exact fun _ => hrw

/-- A STOP completes the command with the cause recorded, and both lines released (R88, R90). -/
theorem machineInv_stepStop {s : State} (hp : s.phase = .stop) (hinv : MachineInv s) : MachineInv (stepStop s) := by
  obtain ⟨-, -, hc⟩ := (machineInv_stop hp).1 hinv
  rw [stepStop_eq]
  refine (machineInv_idle rfl).2 ⟨rfl, rfl, ?_⟩
  rcases hc with hc | hc | ⟨hc, hrw⟩
  · exact .inr (.inl (by simp [State.ok, hc]))
  · exact .inr (.inr (by simp [State.ok, hc]))
  · exact .inr (.inr (by simp [State.ok, hc, hrw]))

theorem engineStep_keeps_machineInv (d : Draw) {s : State} (hinv : MachineInv s) : MachineInv (engineStep d s) := by
  rcases engineStep_cases d s with ⟨_, e⟩ | ⟨hb, _, e⟩ | ⟨_, hp, e⟩ | ⟨_, hp, e⟩ | ⟨_, hp, e⟩ | ⟨_, hp, e⟩ | ⟨_, hp, e⟩ <;> rw [e]
  · exact hinv
  · exact machineInv_timeoutAbort _ hb hinv
  · obtain ⟨hf, -, -, hc⟩ := (machineInv_start hp).1 hinv
    exact (machineInv_addr rfl).2 ⟨hf, rfl, hc⟩
  · exact machineInv_stepAddr _ hp hinv
  · exact machineInv_stepWdata _ hp hinv
  · exact machineInv_stepRdata _ hp hinv
  · exact machineInv_stepStop hp hinv

theorem machineInv_blockReset (s : State) : MachineInv s.blockReset :=
  (machineInv_idle rfl).2 ⟨rfl, rfl, .inl ⟨rfl, rfl, rfl, rfl⟩⟩

/-! ### The unread tail of RXBUF (R45, R81, R87) -/

theorem rxTail_of_sameButReply {s t : State} (h : SameButReply s t) (htail : RxTail s) : RxTail t := by
  rw [h]; exact htail

theorem rxTail_of_rxValid_false {s : State} (hp : s.phase = .idle) (h : s.rxValid = false) : RxTail s := by
  rw [RxTail, hp]
  simp [h]

theorem exec_keeps_rxTail {i : Instr} {s t : State} (h : exec i s = .next t) (htail : RxTail s) : RxTail t := by
  rcases exec_cases i s t h with e | ⟨_, v, b, _, e⟩ | ⟨hp, v, addr, len, _, e⟩ | ⟨hp, v, addr, len, _, e⟩ | ⟨hp, v, e⟩
  · exact rxTail_of_sameButReply e htail
  · rw [e]; exact htail
  · rw [e]; exact nofun
  · rw [e]; exact fun _ j _ => get_zero j
  · rw [e]; exact rxTail_of_rxValid_false hp rfl

/-- A byte stored at an index leaves the zeros after it. -/
theorem rxZeroFrom_set {s : State} {i : BitVec 3} (x : Byte) {n : Nat} (hn : n = i.toNat + 1) (h : RxZeroFrom s i.toNat) :
    ∀ j : BitVec 3, n ≤ j.toNat → (s.rxbuf.set i x).get j = 0 := by
  intro j hj
  have hne : j ≠ i := fun he => by subst he; omega
  rw [get_set_other s.rxbuf i j x hne]
  exact h j (by omega)

theorem rxTail_stepAddr (a : Ack) {s : State} (hp : s.phase = .addr) (htail : RxTail s) : RxTail (stepAddr a s) := by
  have hzero : s.curRw = true → RxZeroFrom s 0 := by simpa only [RxTail, hp] using htail
  cases a with
  | nack => exact fun _ => nofun
  | ack =>
    cases hrw : s.curRw with
    | true => simp only [stepAddr, hrw]; exact hzero hrw
    | false => simp only [stepAddr, hrw]; trivial

theorem rxTail_stepWdata (a : Ack) {s : State} (hp : s.phase = .wdata) (hinv : MachineInv s) : RxTail (stepWdata a s) := by
  obtain ⟨-, -, -, hrw, -⟩ := (machineInv_wdata hp).1 hinv
  have hwrite : ¬ s.curRw = true := Bool.eq_false_iff.1 hrw
  cases a with
  | nack => exact fun hread => absurd hread hwrite
  | ack =>
    by_cases hlast : s.idx.toNat + 1 = s.curLen.toNat
    · rw [stepWdata_last hlast]; exact fun hread => absurd hread hwrite
    · rw [stepWdata_notLast hlast, RxTail]; simp only [hp]

theorem rxTail_stepRdata (b : Byte) {s : State} (hp : s.phase = .rdata) (hinv : MachineInv s) (htail : RxTail s) :
    RxTail (stepRdata b s) := by
  obtain ⟨hf, -, -, -, hlt⟩ := (machineInv_rdata hp).1 hinv
  obtain ⟨-, hle⟩ := inFlight_len hf
  have hzero : RxZeroFrom s s.idx.toNat := by simpa only [RxTail, hp] using htail
  by_cases hlast : s.idx.toNat + 1 = s.curLen.toNat
  · rw [stepRdata_last b hlast]
    exact fun _ _ => rxZeroFrom_set b hlast.symm hzero
  · rw [stepRdata_notLast b hlast, RxTail]
    simp only [hp]
    exact rxZeroFrom_set b (toNat_idx_add_one hlt hle hlast) hzero

/-- RX_VALID is set only for a READ without a cause, whose tail the STOP phase holds at zero (R90). -/
theorem rxTail_stepStop {s : State} (hp : s.phase = .stop) (htail : RxTail s) : RxTail (stepStop s) := by
  have hzero : s.curRw = true → s.curCause = .none → RxZeroFrom s s.curLen.toNat := by simpa only [RxTail, hp] using htail
  rw [stepStop_eq]
  intro hvalid
  obtain ⟨hrw, hok⟩ : s.curRw = true ∧ s.curCause = .none := by simpa [State.ok] using hvalid
  exact hzero hrw hok

theorem engineStep_keeps_rxTail (d : Draw) {s : State} (hinv : MachineInv s) (htail : RxTail s) : RxTail (engineStep d s) := by
  rcases engineStep_cases d s with ⟨_, e⟩ | ⟨_, _, e⟩ | ⟨_, hp, e⟩ | ⟨_, hp, e⟩ | ⟨_, hp, e⟩ | ⟨_, hp, e⟩ | ⟨_, hp, e⟩ <;> rw [e]
  · exact htail
  · exact rxTail_of_rxValid_false (by rw [timeoutAbort_eq]) (by rw [timeoutAbort_eq])
  · have hzero : s.curRw = true → RxZeroFrom s 0 := by simpa only [RxTail, hp] using htail
    exact hzero
  · exact rxTail_stepAddr _ hp htail
  · exact rxTail_stepWdata _ hp hinv
  · exact rxTail_stepRdata _ hp hinv htail
  · exact rxTail_stepStop hp htail

theorem rxTail_blockReset (s : State) : RxTail s.blockReset := rxTail_of_rxValid_false rfl rfl

/-! ### An invariant of the block, through a step of any agent -/

/-- A predicate on the block alone that every instruction the decoder gives, every engine step and the reset keep. -/
structure BlockInvariant (P : State → Prop) : Prop where
  agents : ∀ (s : State) (h : HostAgent) (e : Environment), P s → P { s with host := h, env := e }
  raise : ∀ (f : Fault) (s : State), P s → P (s.raise f)
  exec : ∀ (i : Instr) (s t : State), WellFormed i = true → Machine.exec i s = .next t → P s → P t
  engineStep : ∀ (d : Draw) (s : State), P s → P (Machine.engineStep d s)
  blockReset : ∀ s : State, P s.blockReset

theorem BlockInvariant.perform {P : State → Prop} (h : BlockInvariant P) {r : Request} {s t : State} (hr : Machine.perform r s = .next t)
    (hs : P s) : P t := by
  rcases perform_cases r s with ⟨i, hd, e⟩ | ⟨_, _, e⟩ <;> rw [e] at hr
  · exact h.exec i s t (wellFormed_of_decode hd) hr hs
  · cases hr; exact h.raise _ s hs

theorem BlockInvariant.hostStep {P : State → Prop} (h : BlockInvariant P) {s t : State} (ht : Machine.hostStep s = .next t) (hs : P s) :
    P t := by
  rcases hostStep_cases s t ht with ⟨r, u, hu, e⟩ | e <;> rw [e]
  · exact h.agents u _ u.env (h.perform hu (h.agents s _ s.env hs))
  · exact h.agents s _ s.env hs

theorem BlockInvariant.engineMove {P : State → Prop} (h : BlockInvariant P) {s : State} (hs : P s) : P (Machine.engineMove s) := by
  rw [Machine.engineMove]
  split
  · exact h.agents _ _ _ (h.engineStep s.draw s hs)
  · exact hs

theorem BlockInvariant.step {P : State → Prop} (h : BlockInvariant P) {s t : State} (ht : Machine.step s = .next t) (hs : P s) : P t := by
  have hpass : P s.passTurn := h.agents s s.host _ hs
  rcases step_cases s with ⟨_, e⟩ | ⟨_, e⟩ | ⟨_, e⟩ <;> rw [e] at ht
  · exact h.hostStep ht hpass
  · cases ht; exact h.agents _ _ _ (h.engineMove hs)
  · cases ht; exact h.agents _ _ s.passTurn.env (h.blockReset s.passTurn)

theorem machineInv_blockInvariant : BlockInvariant MachineInv where
  agents _ _ _ h := h
  raise _ _ h := h
  exec _ _ _ hwf h := exec_keeps_machineInv hwf h
  engineStep d _ := engineStep_keeps_machineInv d
  blockReset := machineInv_blockReset

/-- The zeros of the tail need the machine's invariant beside them: a WRITE never comes to RX_VALID, and an index stays in range. -/
theorem rxTail_blockInvariant : BlockInvariant (fun s => MachineInv s ∧ RxTail s) where
  agents _ _ _ h := h
  raise _ _ h := h
  exec _ _ _ hwf h := fun ⟨hinv, htail⟩ => ⟨exec_keeps_machineInv hwf h hinv, exec_keeps_rxTail h htail⟩
  engineStep d _ := fun ⟨hinv, htail⟩ => ⟨engineStep_keeps_machineInv d hinv, engineStep_keeps_rxTail d hinv htail⟩
  blockReset s := ⟨machineInv_blockReset s, rxTail_blockReset s⟩

end Sys2Proof.Machine

section

open Sys2Proof Sys2Proof.Machine

/-- Settles O48: instructions, engine steps and reset each keep the invariant, and it looks at nothing else (R70, R86, R91, R101). -/
theorem stepKeepsTheInvariant : Obligations.StepKeepsTheInvariant := fun _ _ hinv h => machineInv_blockInvariant.step h hinv

/-- Settles O49: a READ starts from zeros and stores its bytes in index order, so what lies after the index stays zero (R45, R81, R87). -/
theorem stepKeepsTheUnreadTailZero : Obligations.StepKeepsTheUnreadTailZero := by
  intro s t hinv htail h
  obtain ⟨-, htail'⟩ := rxTail_blockInvariant.step h ⟨hinv, htail⟩
  exact htail'

/-- Settles O50: the reset state is idle, with both lines released and no flag set (R170, R171). -/
theorem resetMeetsTheInvariants : Obligations.ResetMeetsTheInvariants :=
  ⟨machineInv_blockReset State.reset, rxTail_blockReset State.reset⟩

end

/-! PROOFS. The engine's payload steps and timeout as 40_transactions.md section 3 gives them, and what the invariant says of STATUS and of the lines (R70, R86, R87, R89, R101). -/

namespace Sys2Proof.Machine

/-- The answers of a failed or rejected command that STATUS can show (R69, R70). -/
theorem code_of_failed {c : Cause} (h : c ≠ .none) : c.code.toNat = 1 ∨ c.code.toNat = 2 ∨ c.code.toNat = 3 ∨ c.code.toNat = 4 := by
  cases c with
  | none => exact absurd rfl h
  | addrNack | dataNack | timeout | configRejected => decide

theorem code_eq_two {c : Cause} (h : c.code.toNat = 2) : c = .dataNack := by
  cases c with
  | dataNack => rfl
  | none | addrNack | timeout | configRejected => exact absurd h (by decide)

/-- The rows of R70: BUSY, DONE, ERR, CAUSE and RX_VALID. -/
def statusRows : List (Bool × Bool × Bool × Nat × Bool) :=
  [(false, false, false, 0, false), (true, false, false, 0, false), (false, true, false, 0, false), (false, true, false, 0, true),
    (false, true, true, 1, false), (false, true, true, 2, false), (false, true, true, 3, false), (false, true, true, 4, false)]

theorem status_mem_rows {s : State} (hinv : MachineInv s) : (s.busy, s.done, s.err, s.cause.code.toNat, s.rxValid) ∈ statusRows := by
  by_cases hp : s.phase = .idle
  · obtain ⟨-, -, hrow⟩ := (machineInv_idle hp).1 hinv
    rw [(busy_eq_false s).2 hp]
    rcases hrow with ⟨hd, he, hc, hv⟩ | ⟨hd, he, hc, hv⟩ | ⟨hd, he, hc, hv, -⟩
    · rw [hd, he, hc, hv]; decide
    · rw [hd, he, hc, hv]; cases s.curRw <;> decide
    · rw [hd, he, hv]
      rcases code_of_failed hc with hn | hn | hn | hn <;> rw [hn] <;> decide
  · obtain ⟨⟨hd, he, hc, hv, -⟩, -⟩ := inFlight_of_busy hinv hp
    rw [(busy_eq_true s).2 hp, hd, he, hc, hv]
    decide

/-- CAUSE 2 is a WRITE's (R70). -/
theorem curRw_of_dataNack {s : State} (hinv : MachineInv s) (h : s.cause = .dataNack) : s.curRw = false := by
  by_cases hp : s.phase = .idle
  · obtain ⟨-, -, hrow⟩ := (machineInv_idle hp).1 hinv
    rcases hrow with ⟨-, -, hc, -⟩ | ⟨-, -, hc, -⟩ | ⟨-, -, -, -, hrw⟩
    · rw [h] at hc; cases hc
    · rw [h] at hc; cases hc
    · exact hrw h
  · obtain ⟨⟨-, -, hc, -⟩, -⟩ := inFlight_of_busy hinv hp
    rw [h] at hc; cases hc

end Sys2Proof.Machine

section

open Sys2Proof Sys2Proof.Machine

/-- Settles O28: a case for each acknowledge and, after an ACK, for the last byte; below a length of at most 8 the index does not wrap (R86). -/
theorem wdataStepSendsThePayloadByte : Obligations.WdataStepSendsThePayloadByte := by
  intro d s hp
  have hbusy : s.phase ≠ .idle := by simp [hp]
  refine ⟨engineStep_timeout hbusy, fun hinv hlast => ?_, fun ht => ?_⟩
  · obtain ⟨hf, -, -, -, hlt⟩ := (machineInv_wdata hp).1 hinv
    have hnext := toNat_idx_add_one hlt (inFlight_len hf).2 hlast
    exact ⟨hnext, by omega⟩
  · rw [engineStep_noTimeout hbusy ht, phaseStep_wdata d hp]
    cases ha : d.ack with
    | nack => exact stepWdata_nack s
    | ack =>
      by_cases hlast : s.idx.toNat + 1 = s.curLen.toNat
      · simp only [stepWdata_last hlast, hlast, reduceCtorEq, if_false, if_true]
      · simp only [stepWdata_notLast hlast, hlast, reduceCtorEq, if_false]

/-- Settles O29: the byte is stored at the index and nowhere else, whether it is the last or not (R87). -/
theorem rdataStepStoresTheByte : Obligations.RdataStepStoresTheByte := by
  intro d s hp
  have hbusy : s.phase ≠ .idle := by simp [hp]
  refine ⟨engineStep_timeout hbusy, fun ht => ⟨s.rxbuf.set s.idx d.byte, fun j => ?_, ?_⟩⟩
  · split
    · next hj => rw [hj, get_set_same]
    · next hj => exact get_set_other s.rxbuf s.idx j d.byte hj
  · rw [engineStep_noTimeout hbusy ht, phaseStep_rdata d hp]
    split
    · next hlast => exact stepRdata_last d.byte hlast
    · next hlast => exact stepRdata_notLast d.byte hlast

/-- Settles O31: the record is the first settings of the phase's sequence and the release, and the cause the first one (R89, R91, R110). -/
theorem timeoutAbortsInEveryPhase : Obligations.TimeoutAbortsInEveryPhase := by
  intro d s hp ht
  refine ⟨(pendingLines s).take d.abortAt, _, List.take_prefix _ _, rfl, ?_⟩
  rw [engineStep_timeout hp ht, timeoutAbort_eq]
  simp only [State.ok, decide_eq_true_eq]
  rfl

/-- Settles O51: each clause of the invariant is one row of the table, and only a WRITE's row has CAUSE 2 (R70). -/
theorem statusIsAListedRow : Obligations.StatusIsAListedRow := by
  intro s hinv
  obtain ⟨hbusy, hdone, herr, hrx, -⟩ := statusWord_flags s
  refine ⟨statusWord s, exec_readInstr_valid .status rfl, ?_, fun h => ?_⟩
  · rw [hbusy, hdone, herr, hrx, statusWord_cause]
    exact status_mem_rows hinv
  · rw [statusWord_cause] at h
    exact curRw_of_dataNack hinv (code_eq_two h)

/-- Settles O52: the invariant has the lines released while IDLE, and no instruction touches them (R101). -/
theorem idleLinesAreReleased : Obligations.IdleLinesAreReleased := by
  intro s v hinv hp
  obtain ⟨hscl, hsda, -⟩ := (machineInv_idle hp).1 hinv
  have hexec := exec_wrCmd_idle v hp
  obtain ⟨-, -, -, hscl', hsda', -⟩ := exec_frame hexec
  exact ⟨hscl, hsda, _, hexec, hscl'.trans hscl, hsda'.trans hsda, exec_keeps_machineInv (i := .wrCmd v) rfl hexec hinv⟩

end

/-! PROOFS. The runs of one command, 40_transactions.md sections 2 and 4: how long one takes, which traces it can leave, and what it leaves in the block (R80, R81, R94, R95). -/

namespace Sys2Proof.Machine

/-! ### How many engine steps a command can still take (R94) -/

/-- Whatever is drawn, the engine is IDLE after `n` steps. -/
def CompletesWithin : Nat → State → Prop
  | 0, s => s.phase = .idle
  | n + 1, s => ∀ d : Draw, CompletesWithin n (engineStep d s)

theorem completesWithin_of_idle (n : Nat) {s : State} (hp : s.phase = .idle) : CompletesWithin n s := by
  induction n with
  | zero => exact hp
  | succ n ih => exact fun d => by rwa [engineStep_idle d s hp]

/-- A timeout completes at once, so only the phase's own step has to be followed. -/
theorem completesWithin_succ {n : Nat} {s : State} (hbusy : s.phase ≠ .idle)
    (h : ∀ d : Draw, CompletesWithin n (phaseStep d s)) : CompletesWithin (n + 1) s := by
  intro d
  cases ht : d.timeout with
  | true =>
    rw [engineStep_timeout hbusy ht, timeoutAbort_eq]
    exact completesWithin_of_idle n rfl
  | false =>
    rw [engineStep_noTimeout hbusy ht]
    exact h d

theorem completesWithin_stop (n : Nat) {s : State} (hp : s.phase = .stop) : CompletesWithin (n + 1) s := by
  refine completesWithin_succ (by simp [hp]) (fun d => ?_)
  rw [phaseStep_stop d hp, stepStop_eq]
  exact completesWithin_of_idle n rfl

/-- From payload index `idx` there is a step for each byte still to go, and STOP. -/
theorem completesWithin_payload (k : Nat) {s : State} (hp : s.phase = .wdata ∨ s.phase = .rdata)
    (hk : s.idx.toNat + k + 1 = s.curLen.toNat) (hle : s.curLen.toNat ≤ 8) : CompletesWithin (k + 2) s := by
  induction k generalizing s with
  | zero =>
    have hlast : s.idx.toNat + 1 = s.curLen.toNat := hk
    rcases hp with hp | hp <;> refine completesWithin_succ (by simp [hp]) (fun d => ?_)
    · rw [phaseStep_wdata d hp]
      cases d.ack with
      | nack => exact completesWithin_stop 0 rfl
      | ack => rw [stepWdata_last hlast]; exact completesWithin_stop 0 rfl
    · rw [phaseStep_rdata d hp, stepRdata_last d.byte hlast]
      exact completesWithin_stop 0 rfl
  | succ k ih =>
    have hnotLast : s.idx.toNat + 1 ≠ s.curLen.toNat := by omega
    have hnext : (s.idx + 1).toNat + k + 1 = s.curLen.toNat := by
      rw [toNat_idx_add_one (by omega) hle hnotLast]; omega
    rcases hp with hp | hp <;> refine completesWithin_succ (by simp [hp]) (fun d => ?_)
    · rw [phaseStep_wdata d hp]
      cases d.ack with
      | nack => exact completesWithin_stop _ rfl
      | ack => rw [stepWdata_notLast hnotLast]; exact ih (.inl hp) hnext hle
    · rw [phaseStep_rdata d hp, stepRdata_notLast d.byte hnotLast]
      exact ih (.inr hp) hnext hle

theorem completesWithin_addr {s : State} (hp : s.phase = .addr) (hlo : 1 ≤ s.curLen.toNat) (hle : s.curLen.toNat ≤ 8) :
    CompletesWithin (s.curLen.toNat + 2) s := by
  refine completesWithin_succ (by simp [hp]) (fun d => ?_)
  rw [phaseStep_addr d hp]
  cases d.ack with
  | nack => exact completesWithin_stop _ rfl
  | ack =>
    obtain ⟨k, hk⟩ : ∃ k, s.curLen.toNat = k + 1 := Nat.exists_eq_add_of_le' hlo
    have hphase : (stepAddr .ack s).phase = .wdata ∨ (stepAddr .ack s).phase = .rdata := by
      cases hrw : s.curRw <;> simp [stepAddr, hrw]
    rw [hk]
    exact completesWithin_payload k hphase (by rw [← Nat.zero_add k] at hk; exact hk.symm) hle

theorem completesWithin_start {s : State} (hp : s.phase = .start) (hlo : 1 ≤ s.curLen.toNat) (hle : s.curLen.toNat ≤ 8) :
    CompletesWithin (s.curLen.toNat + 3) s := by
  refine completesWithin_succ (by simp [hp]) (fun d => ?_)
  rw [phaseStep_start d hp]
  exact completesWithin_addr (s := stepStart s) rfl hlo hle

theorem engineRun_phase_of_completesWithin {ds : List Draw} {s : State} (h : CompletesWithin ds.length s) :
    (engineRun ds s).phase = .idle := by
  induction ds generalizing s with
  | nil => exact h
  | cons d ds ih => exact ih (h d)

/-- Each step of a run emits one symbol while the command is in flight, and none after it. -/
theorem engineRun_trace_length (ds : List Draw) (s : State) :
    ∃ tr, (engineRun ds s).trace = s.trace ++ tr ∧ tr.length ≤ ds.length ∧ (s.phase ≠ .idle → ds ≠ [] → 1 ≤ tr.length) := by
  induction ds generalizing s with
  | nil => exact ⟨[], by simp [engineRun], Nat.le_refl _, fun _ h => absurd rfl h⟩
  | cons d ds ih =>
    by_cases hi : s.phase = .idle
    · exact ⟨[], by simp [engineRun_idle _ s hi], Nat.zero_le _, fun hb => absurd hi hb⟩
    · obtain ⟨y, hy⟩ := engineStep_trace d s hi
      obtain ⟨tr, htr, hle, -⟩ := ih (engineStep d s)
      exact ⟨y :: tr, by rw [engineRun, htr, hy, List.append_assoc, List.singleton_append], Nat.succ_le_succ hle, fun _ _ => by simp⟩

/-! ### The report through an engine step (R90, R126) -/

/-- The latch: the last step of a six-byte READ without a cause and without a timeout. -/
def LatchStep (d : Draw) (s : State) : Prop :=
  s.phase = .stop ∧ d.timeout = false ∧ s.curRw = true ∧ s.curCause = .none ∧ s.curLen = 6

theorem latches_iff (s : State) : s.latches = true ↔ s.curRw = true ∧ s.curCause = .none ∧ s.curLen = 6 := by
  rw [latches_eq]
  simp [and_assoc]

/-- An engine step leaves REPORT and REPORT_VALID alone unless it is the latch. -/
theorem engineStep_report (d : Draw) (s : State) :
    (LatchStep d s ∧ (engineStep d s).phase = .idle ∧ (engineStep d s).reportValid = true ∧ (engineStep d s).report = reportOf s.rxbuf)
      ∨ ((engineStep d s).report = s.report ∧ (engineStep d s).reportValid = s.reportValid) := by
  rcases engineStep_cases d s with ⟨_, e⟩ | ⟨_, _, e⟩ | ⟨_, _, e⟩ | ⟨_, _, e⟩ | ⟨_, _, e⟩ | ⟨_, _, e⟩ | ⟨ht, hp, e⟩ <;> rw [e]
  · exact .inr ⟨rfl, rfl⟩
  · rw [timeoutAbort_eq]; exact .inr ⟨rfl, rfl⟩
  · exact .inr ⟨rfl, rfl⟩
  · cases d.ack <;> exact .inr ⟨rfl, rfl⟩
  · cases d.ack with
    | nack => exact .inr ⟨rfl, rfl⟩
    | ack => simp only [stepWdata, State.nextByte]; split <;> exact .inr ⟨rfl, rfl⟩
  · simp only [stepRdata, State.nextByte]; split <;> exact .inr ⟨rfl, rfl⟩
  · rw [stepStop_eq]
    by_cases hl : s.latches = true
    · simp only [hl, if_true]
      exact .inl ⟨⟨hp, ht, (latches_iff s).1 hl⟩, trivial, trivial, trivial⟩
    · simp only [hl]; exact .inr ⟨rfl, rfl⟩

/-! ### Where a command in flight stands (R84 to R91) -/

/-- `s` is on the way of the command that `u` started: at a phase, with the symbols emitted since and the cause recorded so far. -/
structure Position (u : State) (p : Phase) (pre : List Symbol) (c : Cause) (s : State) : Prop where
  phase : s.phase = p
  trace : s.trace = u.trace ++ pre
  cause : s.curCause = c
  curAddr : s.curAddr = u.curAddr
  curRw : s.curRw = u.curRw
  curLen : s.curLen = u.curLen
  txbuf : s.txbuf = u.txbuf
  report : s.report = u.report
  reportValid : s.reportValid = u.reportValid

theorem Position.refl {u : State} {p : Phase} {c : Cause} (hp : u.phase = p) (hc : u.curCause = c) : Position u p [] c u :=
  ⟨hp, by simp, hc, rfl, rfl, rfl, rfl, rfl, rfl⟩

/-- A step that is not the latch moves the position on by the symbol it emits. -/
theorem Position.next {u s : State} {p q : Phase} {pre : List Symbol} {c e : Cause} {y : Symbol} {d : Draw} (h : Position u p pre c s)
    (hstop : p ≠ .stop) (hp : (engineStep d s).phase = q) (hy : (engineStep d s).trace = s.trace ++ [y])
    (hc : (engineStep d s).curCause = e) : Position u q (pre ++ [y]) e (engineStep d s) := by
  obtain ⟨-, htx, -, -, -, -, hrw, hlen, haddr⟩ := engineStep_frame d s
  rcases engineStep_report d s with ⟨⟨hlatch, -⟩, -⟩ | ⟨hrep, hval⟩
  · exact absurd (h.phase.symm.trans hlatch) hstop
  · exact ⟨hp, by rw [hy, h.trace, List.append_assoc], hc, haddr.trans h.curAddr, hrw.trans h.curRw, hlen.trans h.curLen,
      htx.trans h.txbuf, hrep.trans h.report, hval.trans h.reportValid⟩

/-- The command that `u` started is complete in `t`, with a trace of its own and the completion's flags (R90). -/
structure Completed (u : State) (tr : List Symbol) (t : State) : Prop where
  phase : t.phase = .idle
  trace : t.trace = u.trace ++ tr
  done : t.done = true
  err : t.err = decide (t.cause ≠ .none)
  rxValid : t.rxValid = (u.curRw && decide (t.cause = .none))
  txbuf : t.txbuf = u.txbuf
  report : t.report = if u.curRw = true ∧ t.cause = .none ∧ u.curLen = 6 then reportOf t.rxbuf else u.report
  reportValid : t.reportValid = if u.curRw = true ∧ t.cause = .none ∧ u.curLen = 6 then true else u.reportValid

/-- The cause a timeout completes with: the first one recorded, or TIMEOUT (R91). -/
def causeAfterTimeout (c : Cause) : Cause := if c = .none then .timeout else c

theorem causeAfterTimeout_ne_none (c : Cause) : causeAfterTimeout c ≠ .none := by cases c <;> decide

theorem Position.timeout {u s : State} {p : Phase} {pre : List Symbol} {c : Cause} {d : Draw} (h : Position u p pre c s) (hp : p ≠ .idle)
    (ht : d.timeout = true) :
    Completed u (pre ++ [.timeoutRelease]) (engineStep d s) ∧ (engineStep d s).cause = causeAfterTimeout c
      ∧ (engineStep d s).rxbuf = s.rxbuf := by
  have hcause : (if s.ok then Cause.timeout else s.curCause) = causeAfterTimeout c := by
    simp only [State.ok, h.cause, decide_eq_true_eq]
    rfl
  have hne := causeAfterTimeout_ne_none c
  rw [engineStep_timeout (by rwa [h.phase]) ht, timeoutAbort_eq]
  simp only [hcause]
  refine ⟨⟨rfl, by rw [h.trace, List.append_assoc], rfl, by simp [hne], by simp [hne], h.txbuf, ?_, ?_⟩, trivial, trivial⟩
  · simp only [hne, false_and, and_false, if_false]; exact h.report
  · simp only [hne, false_and, and_false, if_false]; exact h.reportValid

theorem Position.stop {u s : State} {pre : List Symbol} {c : Cause} {d : Draw} (h : Position u .stop pre c s) (ht : d.timeout = false) :
    Completed u (pre ++ [.p]) (engineStep d s) ∧ (engineStep d s).cause = c ∧ (engineStep d s).rxbuf = s.rxbuf := by
  have hlatch : (s.latches = true) = (u.curRw = true ∧ c = .none ∧ u.curLen = 6) := by
    rw [latches_iff, h.curRw, h.cause, h.curLen]
  rw [engineStep_noTimeout (by simp [h.phase]) ht, phaseStep_stop d h.phase, stepStop_eq]
  simp only [hlatch, State.ok, h.cause, h.curRw]
  exact ⟨⟨rfl, by rw [h.trace, List.append_assoc], rfl, by simp, rfl, h.txbuf, by rw [h.report], by rw [h.reportValid]⟩, trivial, trivial⟩

theorem Position.start {u s : State} {d : Draw} (h : Position u .start [] .none s) (ht : d.timeout = false) :
    Position u .addr [.s] .none (engineStep d s) ∧ (engineStep d s).rxbuf = s.rxbuf := by
  have e : engineStep d s = stepStart s := (engineStep_noTimeout (by simp [h.phase]) ht).trans (phaseStep_start d h.phase)
  exact ⟨h.next (y := .s) (by decide) (by rw [e]; rfl) (by rw [e]; rfl) (by rw [e]; exact h.cause), by rw [e]; rfl⟩

theorem Position.addrNack {u s : State} {d : Draw} (h : Position u .addr [.s] .none s) (ht : d.timeout = false) (ha : d.ack = .nack) :
    Position u .stop [.s, .tx (addrByte u.curAddr u.curRw) .nack] .addrNack (engineStep d s) ∧ (engineStep d s).rxbuf = s.rxbuf := by
  have e : engineStep d s = stepAddr .nack s := by rw [engineStep_noTimeout (by simp [h.phase]) ht, phaseStep_addr d h.phase, ha]
  rw [← h.curAddr, ← h.curRw]
  exact ⟨h.next (y := .tx (addrByte s.curAddr s.curRw) .nack) (by decide) (by rw [e]; rfl) (by rw [e]; rfl) (by rw [e]; rfl), by rw [e]; rfl⟩

theorem Position.addrAck {u s : State} {d : Draw} (h : Position u .addr [.s] .none s) (ht : d.timeout = false) (ha : d.ack = .ack) :
    Position u (if u.curRw then .rdata else .wdata) [.s, .tx (addrByte u.curAddr u.curRw) .ack] .none (engineStep d s)
      ∧ (engineStep d s).idx = 0 ∧ (engineStep d s).rxbuf = s.rxbuf := by
  have e : engineStep d s = stepAddr .ack s := by rw [engineStep_noTimeout (by simp [h.phase]) ht, phaseStep_addr d h.phase, ha]
  rw [← h.curAddr, ← h.curRw]
  exact ⟨h.next (y := .tx (addrByte s.curAddr s.curRw) .ack) (by decide) (by rw [e]; rfl) (by rw [e]; rfl) (by rw [e]; exact h.cause),
    by rw [e]; rfl, by rw [e]; rfl⟩

/-! ### A run from a position to the completion -/

/-- A predicate of commands in flight that every step keeps or completes leads to the completion in a run that ends IDLE. -/
theorem engineRun_reaches {P Q : State → Prop} (hstep : ∀ d s, P s → P (engineStep d s) ∨ Q (engineStep d s)) (hbusy : ∀ s, P s → s.phase ≠ .idle)
    (hidle : ∀ s, Q s → s.phase = .idle) (ds : List Draw) {s : State} (hs : P s) (hend : (engineRun ds s).phase = .idle) :
    Q (engineRun ds s) := by
  induction ds generalizing s with
  | nil => exact absurd hend (hbusy s hs)
  | cons d ds ih =>
    rcases hstep d s hs with hp | hq
    · exact ih hp hend
    · rw [engineRun, engineRun_idle ds _ (hidle _ hq)]
      exact hq

theorem engineRun_append (ds es : List Draw) (s : State) : engineRun (ds ++ es) s = engineRun es (engineRun ds s) := by
  induction ds generalizing s with
  | nil => rfl
  | cons d ds ih => exact ih (engineStep d s)

end Sys2Proof.Machine

/-! PROOFS. The traces of a WRITE and of a READ, 40_transactions.md sections 2 and 4 (R80, R81, R95). -/

namespace Sys2Proof.Machine

/-! ### A WRITE on its way (R80, R85, R86) -/

/-- The start of the trace of a command whose address was acknowledged. -/
def addressed (ab : Byte) : List Symbol := [.s, .tx ab .ack]

/-- The trace a WRITE has left when it comes to STOP, and the cause recorded: a NACK of the address, a NACK of a byte, or every byte sent. -/
def WriteBody (ab : Byte) (buf : Buf) (len : Nat) (pre : List Symbol) (c : Cause) : Prop :=
  (pre = [.s, .tx ab .nack] ∧ c = .addrNack)
    ∨ (∃ j, j < len ∧ pre = addressed ab ++ sentBytes buf j ++ [.tx (buf.get (BitVec.ofNat 3 j)) .nack] ∧ c = .dataNack)
    ∨ (pre = addressed ab ++ sentBytes buf len ∧ c = .none)

theorem writeTrace_stop {ab : Byte} {buf : Buf} {len : Nat} {pre : List Symbol} {c : Cause} (h : WriteBody ab buf len pre c) :
    WriteTrace ab buf len (pre ++ [.p]) c := by
  rcases h with ⟨rfl, rfl⟩ | ⟨j, hj, rfl, rfl⟩ | ⟨rfl, rfl⟩
  · exact .inr (.inr (.inl ⟨.p, .inl rfl, rfl, rfl⟩))
  · exact .inr (.inr (.inr (.inr (.inl ⟨j, .p, hj, .inl rfl, List.append_assoc _ _ _, rfl⟩))))
  · exact .inr (.inr (.inr (.inr (.inr (.inl ⟨rfl, rfl⟩)))))

theorem writeTrace_timeout {ab : Byte} {buf : Buf} {len : Nat} {pre : List Symbol} {c : Cause} (h : WriteBody ab buf len pre c) :
    WriteTrace ab buf len (pre ++ [.timeoutRelease]) (causeAfterTimeout c) := by
  rcases h with ⟨rfl, rfl⟩ | ⟨j, hj, rfl, rfl⟩ | ⟨rfl, rfl⟩
  · exact .inr (.inr (.inl ⟨.timeoutRelease, .inr rfl, rfl, rfl⟩))
  · exact .inr (.inr (.inr (.inr (.inl ⟨j, .timeoutRelease, hj, .inr rfl, List.append_assoc _ _ _, rfl⟩))))
  · exact .inr (.inr (.inr (.inr (.inr (.inr ⟨rfl, rfl⟩)))))

theorem sentBytes_succ (buf : Buf) (j : Nat) : sentBytes buf (j + 1) = sentBytes buf j ++ [.tx (buf.get (BitVec.ofNat 3 j)) .ack] := by
  simp [sentBytes, List.range_succ]

/-- Where a WRITE stands: at START, at the address, before payload byte `idx`, or at STOP. -/
inductive WriteSoFar (u s : State) : Prop where
  | start (h : Position u .start [] .none s)
  | addr (h : Position u .addr [.s] .none s)
  | wdata (h : Position u .wdata (addressed (addrByte u.curAddr u.curRw) ++ sentBytes u.txbuf s.idx.toNat) .none s)
      (hlt : s.idx.toNat < u.curLen.toNat)
  | stop (pre : List Symbol) (c : Cause) (h : Position u .stop pre c s)
      (hbody : WriteBody (addrByte u.curAddr u.curRw) u.txbuf u.curLen.toNat pre c)

/-- The completion of a WRITE: its trace is a listed one and stands for the cause. -/
def WriteDone (u t : State) : Prop :=
  ∃ tr, Completed u tr t ∧ WriteTrace (addrByte u.curAddr u.curRw) u.txbuf u.curLen.toNat tr t.cause

theorem writeSoFar_busy {u s : State} (h : WriteSoFar u s) : s.phase ≠ .idle := by
  cases h with
  | start h | addr h | wdata h | stop _ _ h => rw [h.phase]; decide

theorem writeDone_timeout {u s : State} {d : Draw} (h : WriteSoFar u s) (ht : d.timeout = true) : WriteDone u (engineStep d s) := by
  cases h with
  | start h =>
    obtain ⟨hdone, hc, -⟩ := h.timeout (by decide) ht
    exact ⟨_, hdone, by rw [hc]; exact .inl ⟨rfl, rfl⟩⟩
  | addr h =>
    obtain ⟨hdone, hc, -⟩ := h.timeout (by decide) ht
    exact ⟨_, hdone, by rw [hc]; exact .inr (.inl ⟨rfl, rfl⟩)⟩
  | wdata h hlt =>
    obtain ⟨hdone, hc, -⟩ := h.timeout (by decide) ht
    exact ⟨_, hdone, by rw [hc]; exact .inr (.inr (.inr (.inl ⟨_, hlt, rfl, rfl⟩)))⟩
  | stop pre c h hbody =>
    obtain ⟨hdone, hc, -⟩ := h.timeout (by decide) ht
    exact ⟨_, hdone, by rw [hc]; exact writeTrace_timeout hbody⟩

/-- The WDATA step of a WRITE on its way. -/
theorem writeSoFar_stepWdata {u s : State} {d : Draw} (hle : u.curLen.toNat ≤ 8)
    (h : Position u .wdata (addressed (addrByte u.curAddr u.curRw) ++ sentBytes u.txbuf s.idx.toNat) .none s)
    (hlt : s.idx.toNat < u.curLen.toNat) (ht : d.timeout = false) : WriteSoFar u (engineStep d s) := by
  have hbyte : s.txbuf.get s.idx = u.txbuf.get (BitVec.ofNat 3 s.idx.toNat) := by rw [h.txbuf, BitVec.ofNat_toNat, BitVec.setWidth_eq]
  have e : engineStep d s = stepWdata d.ack s := by rw [engineStep_noTimeout (by simp [h.phase]) ht, phaseStep_wdata d h.phase]
  cases ha : d.ack with
  | nack =>
    rw [ha, stepWdata_nack, hbyte] at e
    exact .stop _ _ (h.next (by decide) (by rw [e]) (by rw [e]) (by rw [e])) (.inr (.inl ⟨_, hlt, rfl, rfl⟩))
  | ack =>
    by_cases hlast : s.idx.toNat + 1 = s.curLen.toNat
    · rw [ha, stepWdata_last hlast, hbyte] at e
      refine .stop _ _ (h.next (by decide) (by rw [e]) (by rw [e]) (by rw [e]; exact h.cause)) (.inr (.inr ⟨?_, rfl⟩))
      rw [← h.curLen, ← hlast, sentBytes_succ, List.append_assoc]
    · have hnext := toNat_idx_add_one (h.curLen ▸ hlt) (h.curLen ▸ hle) hlast
      rw [ha, stepWdata_notLast hlast, hbyte] at e
      have hidx : (engineStep d s).idx.toNat = s.idx.toNat + 1 := by rw [e]; exact hnext
      rw [h.curLen] at hlast
      refine .wdata ?_ (by omega)
      rw [hidx, sentBytes_succ, ← List.append_assoc]
      exact h.next (by decide) (by rw [e]; exact h.phase) (by rw [e]) (by rw [e]; exact h.cause)

theorem writeSoFar_step {u : State} (hrw : u.curRw = false) (hlo : 1 ≤ u.curLen.toNat) (hle : u.curLen.toNat ≤ 8) (d : Draw) (s : State)
    (h : WriteSoFar u s) : WriteSoFar u (engineStep d s) ∨ WriteDone u (engineStep d s) := by
  cases ht : d.timeout with
  | true => exact .inr (writeDone_timeout h ht)
  | false =>
    cases h with
    | start h => exact .inl (.addr (h.start ht).1)
    | addr h =>
      cases ha : d.ack with
      | nack => exact .inl (.stop _ _ (h.addrNack ht ha).1 (.inl ⟨rfl, rfl⟩))
      | ack =>
        obtain ⟨hpos, hidx, -⟩ := h.addrAck ht ha
        rw [hrw, if_neg Bool.false_ne_true] at hpos
        refine .inl (.wdata ?_ (by rw [hidx]; exact hlo))
        rw [hidx, hrw]
        exact hpos
    | wdata h hlt => exact .inl (writeSoFar_stepWdata hle h hlt ht)
    | stop pre c h hbody =>
      obtain ⟨hdone, hc, -⟩ := h.stop ht
      exact .inr ⟨_, hdone, by rw [hc]; exact writeTrace_stop hbody⟩

/-! ### A READ on its way (R81, R85, R87) -/

/-- The buffer holds the bytes from index 0 on, and zeros after them. -/
def HoldsBytes (b : Buf) (bytes : List Byte) : Prop := ∀ j : BitVec 3, b.get j = (bytes[j.toNat]?).getD 0

theorem holdsBytes_nil {b : Buf} : HoldsBytes b [] ↔ ∀ j, b.get j = 0 := by simp [HoldsBytes]

/-- A byte stored at the index that follows the bytes held is held as the next one. -/
theorem holdsBytes_set {b : Buf} {bytes : List Byte} {i : BitVec 3} (h : HoldsBytes b bytes) (hi : i.toNat = bytes.length) (x : Byte) :
    HoldsBytes (b.set i x) (bytes ++ [x]) := by
  intro j
  by_cases hj : j = i
  · rw [hj, get_set_same, hi, List.getElem?_concat_length, Option.getD_some]
  · have hne : j.toNat ≠ bytes.length := fun he => hj (BitVec.eq_of_toNat_eq (he.trans hi.symm))
    rw [get_set_other b i j x hj, h j]
    rcases Nat.lt_or_gt_of_ne hne with hlt | hgt
    · rw [List.getElem?_append_left hlt]
    · rw [List.getElem?_eq_none (by omega), List.getElem?_eq_none (by simp; omega)]

theorem receivedBytes_concat (bytes : List Byte) (b : Byte) : receivedBytes (bytes ++ [b]) = receivedBytes bytes ++ [.rx b .ack] := by
  simp [receivedBytes]

/-- A READ before its next byte, the bytes received so far in RXBUF. -/
structure Receiving (u : State) (bytes : List Byte) (s : State) : Prop where
  position : Position u .rdata (addressed (addrByte u.curAddr u.curRw) ++ receivedBytes bytes) .none s
  idx : s.idx.toNat = bytes.length
  more : bytes.length < u.curLen.toNat
  holds : HoldsBytes s.rxbuf bytes

/-- A READ at STOP with all its bytes in RXBUF, `d` the last. -/
structure Received (u : State) (init : List Byte) (d : Byte) (s : State) : Prop where
  position : Position u .stop (addressed (addrByte u.curAddr u.curRw) ++ receivedBytes init ++ [.rx d .nack]) .none s
  length : (init ++ [d]).length = u.curLen.toNat
  holds : HoldsBytes s.rxbuf (init ++ [d])

theorem Receiving.of_addrAck {u s : State} {d : Draw} (hrw : u.curRw = true) (hlo : 1 ≤ u.curLen.toNat) (h : Position u .addr [.s] .none s)
    (hzero : HoldsBytes s.rxbuf []) (ht : d.timeout = false) (ha : d.ack = .ack) : Receiving u [] (engineStep d s) := by
  obtain ⟨hpos, hidx, hrx⟩ := h.addrAck ht ha
  rw [if_pos hrw] at hpos
  exact ⟨hpos, by rw [hidx]; rfl, hlo, by rw [hrx]; exact hzero⟩

theorem Receiving.next {u s : State} {bytes : List Byte} {d : Draw} (h : Receiving u bytes s) (hle : u.curLen.toNat ≤ 8)
    (ht : d.timeout = false) (hmore : bytes.length + 1 < u.curLen.toNat) : Receiving u (bytes ++ [d.byte]) (engineStep d s) := by
  have hlen := h.position.curLen
  have hidx := h.idx
  have hnotLast : s.idx.toNat + 1 ≠ s.curLen.toNat := by rw [hlen, hidx]; omega
  have hnext := toNat_idx_add_one (s := s) (by rw [hlen]; omega) (by rw [hlen]; exact hle) hnotLast
  have e : engineStep d s = stepRdata d.byte s := by
    rw [engineStep_noTimeout (by simp [h.position.phase]) ht, phaseStep_rdata d h.position.phase]
  rw [stepRdata_notLast d.byte hnotLast] at e
  refine ⟨?_, ?_, ?_, ?_⟩
  · rw [receivedBytes_concat, ← List.append_assoc]
    exact h.position.next (by decide) (by rw [e]; exact h.position.phase) (by rw [e]) (by rw [e]; exact h.position.cause)
  · rw [e, List.length_append, List.length_singleton, ← hidx]
    exact hnext
  · simpa using hmore
  · rw [e]
    exact holdsBytes_set h.holds hidx d.byte

theorem Receiving.last {u s : State} {bytes : List Byte} {d : Draw} (h : Receiving u bytes s) (ht : d.timeout = false)
    (hlast : bytes.length + 1 = u.curLen.toNat) : Received u bytes d.byte (engineStep d s) := by
  have e : engineStep d s = stepRdata d.byte s := by
    rw [engineStep_noTimeout (by simp [h.position.phase]) ht, phaseStep_rdata d h.position.phase]
  rw [stepRdata_last d.byte (by rw [h.position.curLen, h.idx, hlast])] at e
  refine ⟨?_, by simpa using hlast, ?_⟩
  · exact h.position.next (by decide) (by rw [e]) (by rw [e]) (by rw [e]; exact h.position.cause)
  · rw [e]
    exact holdsBytes_set h.holds h.idx d.byte

/-- Where a READ stands: at START or at the address, before its next byte, or at STOP after a NACK of the address or after all its bytes. -/
inductive ReadSoFar (u s : State) : Prop where
  | start (h : Position u .start [] .none s) (hzero : HoldsBytes s.rxbuf [])
  | addr (h : Position u .addr [.s] .none s) (hzero : HoldsBytes s.rxbuf [])
  | rdata (bytes : List Byte) (h : Receiving u bytes s)
  | nacked (h : Position u .stop [.s, .tx (addrByte u.curAddr u.curRw) .nack] .addrNack s) (hzero : HoldsBytes s.rxbuf [])
  | received (init : List Byte) (d : Byte) (h : Received u init d s)

/-- The completion of a READ: its trace is a listed one and stands for the cause, and RXBUF holds its bytes. -/
def ReadDone (u t : State) : Prop :=
  ∃ tr bytes, Completed u tr t ∧ ReadTrace (addrByte u.curAddr u.curRw) u.curLen.toNat bytes tr t.cause ∧ HoldsBytes t.rxbuf bytes

theorem readSoFar_busy {u s : State} (h : ReadSoFar u s) : s.phase ≠ .idle := by
  cases h with
  | start h | addr h | nacked h => rw [h.phase]; decide
  | rdata _ h | received _ _ h => rw [h.position.phase]; decide

theorem readDone_timeout {u s : State} {d : Draw} (h : ReadSoFar u s) (ht : d.timeout = true) : ReadDone u (engineStep d s) := by
  cases h with
  | start h hzero =>
    obtain ⟨hdone, hc, hrx⟩ := h.timeout (by decide) ht
    exact ⟨_, [], hdone, by rw [hc]; exact .inl ⟨rfl, rfl, rfl⟩, by rw [hrx]; exact hzero⟩
  | addr h hzero =>
    obtain ⟨hdone, hc, hrx⟩ := h.timeout (by decide) ht
    exact ⟨_, [], hdone, by rw [hc]; exact .inr (.inl ⟨rfl, rfl, rfl⟩), by rw [hrx]; exact hzero⟩
  | rdata bytes h =>
    obtain ⟨hdone, hc, hrx⟩ := h.position.timeout (by decide) ht
    exact ⟨_, bytes, hdone, by rw [hc]; exact .inr (.inr (.inr (.inl ⟨h.more, rfl, rfl⟩))), by rw [hrx]; exact h.holds⟩
  | nacked h hzero =>
    obtain ⟨hdone, hc, hrx⟩ := h.timeout (by decide) ht
    exact ⟨_, [], hdone, by rw [hc]; exact .inr (.inr (.inl ⟨rfl, .timeoutRelease, .inr rfl, rfl, rfl⟩)), by rw [hrx]; exact hzero⟩
  | received init x h =>
    obtain ⟨hdone, hc, hrx⟩ := h.position.timeout (by decide) ht
    exact ⟨_, init ++ [x], hdone, by
      rw [hc, List.append_assoc]
      exact .inr (.inr (.inr (.inr (.inr ⟨init, x, rfl, h.length, rfl, rfl⟩)))), by rw [hrx]; exact h.holds⟩

/-- The STOP step of a READ with all its bytes. -/
theorem Received.stop {u s : State} {init : List Byte} {x : Byte} {d : Draw} (h : Received u init x s) (ht : d.timeout = false) :
    Completed u (addressed (addrByte u.curAddr u.curRw) ++ receivedBytes init ++ [.rx x .nack, .p]) (engineStep d s)
      ∧ (engineStep d s).cause = .none ∧ HoldsBytes (engineStep d s).rxbuf (init ++ [x]) := by
  obtain ⟨hdone, hc, hrx⟩ := h.position.stop ht
  rw [List.append_assoc] at hdone
  exact ⟨hdone, hc, by rw [hrx]; exact h.holds⟩

theorem readSoFar_step {u : State} (hrw : u.curRw = true) (hlo : 1 ≤ u.curLen.toNat) (hle : u.curLen.toNat ≤ 8) (d : Draw) (s : State)
    (h : ReadSoFar u s) : ReadSoFar u (engineStep d s) ∨ ReadDone u (engineStep d s) := by
  cases ht : d.timeout with
  | true => exact .inr (readDone_timeout h ht)
  | false =>
    cases h with
    | start h hzero =>
      obtain ⟨hpos, hrx⟩ := h.start ht
      exact .inl (.addr hpos (by rw [hrx]; exact hzero))
    | addr h hzero =>
      cases ha : d.ack with
      | nack =>
        obtain ⟨hpos, hrx⟩ := h.addrNack ht ha
        exact .inl (.nacked hpos (by rw [hrx]; exact hzero))
      | ack => exact .inl (.rdata [] (.of_addrAck hrw hlo h hzero ht ha))
    | rdata bytes h =>
      have hmore := h.more
      by_cases hlast : bytes.length + 1 = u.curLen.toNat
      · exact .inl (.received _ _ (h.last ht hlast))
      · exact .inl (.rdata _ (h.next hle ht (by omega)))
    | nacked h hzero =>
      obtain ⟨hdone, hc, hrx⟩ := h.stop ht
      exact .inr ⟨_, [], hdone, by rw [hc]; exact .inr (.inr (.inl ⟨rfl, .p, .inl rfl, rfl, rfl⟩)), by rw [hrx]; exact hzero⟩
    | received init x h =>
      obtain ⟨hdone, hc, hholds⟩ := h.stop ht
      exact .inr ⟨_, _, hdone, by rw [hc]; exact .inr (.inr (.inr (.inr (.inl ⟨init, x, rfl, h.length, rfl, rfl⟩)))), hholds⟩

/-- The bytes before the last one, received one after the other. -/
theorem Receiving.run {u s : State} {bytes : List Byte} {ds : List Draw} (h : Receiving u bytes s) (hle : u.curLen.toNat ≤ 8)
    (ht : ∀ d ∈ ds, d.timeout = false) (hmore : bytes.length + ds.length < u.curLen.toNat) :
    Receiving u (bytes ++ ds.map Draw.byte) (engineRun ds s) := by
  induction ds generalizing s bytes with
  | nil => simpa [engineRun] using h
  | cons d ds ih =>
    rw [List.length_cons] at hmore
    have hnext := h.next hle (ht d (by simp)) (by omega)
    have hrun := ih hnext (fun e he => ht e (by simp [he])) (by simp; omega)
    rwa [List.append_assoc, List.singleton_append] at hrun

/-! ### Symbols without a failure -/

/-- A symbol that is neither `TO` nor a byte of the block's that was answered NACK. -/
def Acknowledged (y : Symbol) : Prop := y ≠ .timeoutRelease ∧ ∀ b, y ≠ .tx b .nack

/-- An acknowledged draw without a timeout makes no symbol of a failure. -/
theorem engineStep_acknowledged {d : Draw} (s : State) (ht : d.timeout = false) (ha : d.ack = .ack) :
    ∃ tr, (engineStep d s).trace = s.trace ++ tr ∧ ∀ y ∈ tr, Acknowledged y := by
  have single {y : Symbol} (h : Acknowledged y) : ∀ z ∈ [y], Acknowledged z := by simpa using h
  rcases engineStep_cases d s with ⟨_, e⟩ | ⟨_, ht', _⟩ | ⟨_, _, e⟩ | ⟨_, _, e⟩ | ⟨_, _, e⟩ | ⟨_, _, e⟩ | ⟨_, _, e⟩
  · exact ⟨[], by simp [e], nofun⟩
  · rw [ht] at ht'; cases ht'
  · exact ⟨[.s], by rw [e]; rfl, single ⟨nofun, fun _ => nofun⟩⟩
  · exact ⟨[.tx (addrByte s.curAddr s.curRw) .ack], by rw [e, ha]; rfl, single ⟨nofun, fun _ => nofun⟩⟩
  · exact ⟨[.tx (s.txbuf.get s.idx) .ack], by rw [e, ha]; exact nextByte_trace _, single ⟨nofun, fun _ => nofun⟩⟩
  · exact ⟨[.rx d.byte s.readAck], by rw [e]; exact nextByte_trace _, single ⟨nofun, fun _ => nofun⟩⟩
  · exact ⟨[.p], by rw [e, stepStop_eq], single ⟨nofun, fun _ => nofun⟩⟩

theorem engineRun_acknowledged (ds : List Draw) (s : State) (h : ∀ d ∈ ds, d.timeout = false ∧ d.ack = .ack) :
    ∃ tr, (engineRun ds s).trace = s.trace ++ tr ∧ ∀ y ∈ tr, Acknowledged y := by
  induction ds generalizing s with
  | nil => exact ⟨[], by simp [engineRun], nofun⟩
  | cons d ds ih =>
    obtain ⟨ht, ha⟩ := h d (by simp)
    obtain ⟨tr, htr, hok⟩ := engineStep_acknowledged s ht ha
    obtain ⟨tr', htr', hok'⟩ := ih (engineStep d s) (fun e he => h e (by simp [he]))
    exact ⟨tr ++ tr', by rw [engineRun, htr', htr, List.append_assoc], fun y hy => (List.mem_append.1 hy).elim (hok y) (hok' y)⟩

/-- The one listed WRITE trace without a failure is the full one (R80, R95). -/
theorem writeTrace_acknowledged {ab : Byte} {buf : Buf} {len : Nat} {tr : List Symbol} {c : Cause} (h : WriteTrace ab buf len tr c)
    (hok : ∀ y ∈ tr, Acknowledged y) : tr = [.s, .tx ab .ack] ++ sentBytes buf len ++ [.p] ∧ c = .none := by
  have noTimeout (hmem : Symbol.timeoutRelease ∈ tr) : False := (hok _ hmem).1 rfl
  have noNack (b : Byte) (hmem : Symbol.tx b .nack ∈ tr) : False := (hok _ hmem).2 b rfl
  rcases h with ⟨e, _⟩ | ⟨e, _⟩ | ⟨_, _, e, _⟩ | ⟨_, _, e, _⟩ | ⟨j, _, _, _, e, _⟩ | h | ⟨e, _⟩
  · exact (noTimeout (by simp [e])).elim
  · exact (noTimeout (by simp [e])).elim
  · exact (noNack ab (by simp [e])).elim
  · exact (noTimeout (by simp [e])).elim
  · exact (noNack (buf.get (BitVec.ofNat 3 j)) (by simp [e])).elim
  · exact h
  · exact (noTimeout (by simp [e])).elim

/-! ### From the issue to the completion -/

/-- The state right after the issue of a WRITE on the idle block (R80). -/
def writeIssued (addr : BitVec 7) (len : BitVec 4) (s : State) : State :=
  issueWrite addr len { s with cmd := cmdWord false addr len, reply := none }

/-- The state right after the issue of a READ on the idle block (R81). -/
def readIssued (addr : BitVec 7) (len : BitVec 4) (s : State) : State :=
  issueRead addr len { s with cmd := cmdWord true addr len, reply := none }

theorem engineRun_writeDone (addr : BitVec 7) {len : BitVec 4} (s : State) {ds : List Draw} (hlo : 1 ≤ len.toNat) (hle : len.toNat ≤ 8)
    (hds : ds.length = len.toNat + 3) : WriteDone (writeIssued addr len s) (engineRun ds (writeIssued addr len s)) := by
  have hwithin := completesWithin_start (s := writeIssued addr len s) rfl hlo hle
  refine engineRun_reaches (writeSoFar_step rfl hlo hle) (fun _ => writeSoFar_busy) (fun _ ⟨_, h, _⟩ => h.phase) ds
    (.start (.refl rfl rfl)) (engineRun_phase_of_completesWithin ?_)
  rw [hds]
  exact hwithin

theorem engineRun_readDone (addr : BitVec 7) {len : BitVec 4} (s : State) {ds : List Draw} (hlo : 1 ≤ len.toNat) (hle : len.toNat ≤ 8)
    (hds : ds.length = len.toNat + 3) : ReadDone (readIssued addr len s) (engineRun ds (readIssued addr len s)) := by
  have hwithin := completesWithin_start (s := readIssued addr len s) rfl hlo hle
  refine engineRun_reaches (readSoFar_step rfl hlo hle) (fun _ => readSoFar_busy) (fun _ ⟨_, _, h, _⟩ => h.phase) ds
    (.start (.refl rfl rfl) (holdsBytes_nil.2 get_zero)) (engineRun_phase_of_completesWithin ?_)
  rw [hds]
  exact hwithin

/-- A READ whose address is acknowledged and that no timeout strikes, draw by draw: START, the address, the bytes before the last, the
last, STOP (R81). -/
theorem engineRun_read_acknowledged (addr : BitVec 7) {len : BitVec 4} (s : State) {d0 d1 d2 d3 : Draw} {init : List Draw}
    (hle : len.toNat ≤ 8) (hlen : len.toNat = init.length + 1) (h0 : d0.timeout = false) (h1 : d1.timeout = false) (hack : d1.ack = .ack)
    (hinit : ∀ d ∈ init, d.timeout = false) (h2 : d2.timeout = false) (h3 : d3.timeout = false) :
    let t := engineRun (d0 :: d1 :: init ++ [d2, d3]) (readIssued addr len s)
    Completed (readIssued addr len s) (addressed (addrByte addr true) ++ receivedBytes (init.map Draw.byte) ++ [.rx d2.byte .nack, .p]) t
      ∧ t.cause = .none ∧ HoldsBytes t.rxbuf (init.map Draw.byte ++ [d2.byte]) := by
  have hstart : Position (readIssued addr len s) .start [] .none (readIssued addr len s) := .refl rfl rfl
  obtain ⟨haddr, hrx⟩ := hstart.start h0
  have hfirst := Receiving.of_addrAck rfl (show 1 ≤ len.toNat by omega) haddr (by rw [hrx]; exact holdsBytes_nil.2 get_zero) h1 hack
  have hmore : ([] : List Byte).length + init.length < len.toNat := by simp [hlen]
  have hlast : ([] ++ init.map Draw.byte).length + 1 = len.toNat := by simp [hlen]
  have hstop := ((hfirst.run hle hinit hmore).last h2 hlast).stop h3
  rw [List.cons_append, List.cons_append, engineRun, engineRun, engineRun_append]
  exact hstop

end Sys2Proof.Machine

section

open Sys2Proof Sys2Proof.Machine

/-- Settles O33: no phase comes twice but the payload's, which has one step for each byte, and each step emits one symbol (R94). -/
theorem commandCompletesInBoundedSteps : Obligations.CommandCompletesInBoundedSteps := by
  intro s ds hinv hp hds
  obtain ⟨hf, -⟩ := (machineInv_start hp).1 hinv
  obtain ⟨hlo, hle⟩ := inFlight_len hf
  have hwithin := completesWithin_start hp hlo hle
  rw [← hds] at hwithin
  obtain ⟨tr, htr, hlen, hpos⟩ := engineRun_trace_length ds s
  have hne : ds ≠ [] := List.ne_nil_of_length_eq_add_one hds
  exact ⟨engineRun_phase_of_completesWithin hwithin, tr, htr, hpos (by simp [hp]) hne, hds ▸ hlen⟩

/-- Settles O34: `WriteSoFar` follows the command through its phases, and each way out of it is a listed trace (R95). -/
theorem everyWriteTraceIsListed : Obligations.EveryWriteTraceIsListed := by
  intro addr len s ds hp hlo hle hds
  obtain ⟨tr, hdone, htrace⟩ := engineRun_writeDone addr s hlo hle hds
  exact ⟨writeIssued addr len s, _, tr, exec_write_idle addr len hp, rfl, hdone.trace, htrace, hdone.phase, hdone.done, hdone.err, hdone.rxValid,
    hdone.txbuf, hdone.report, hdone.reportValid⟩

/-- Settles O35: `ReadSoFar` follows the command and the bytes in RXBUF, and each way out of it is a listed trace (R95). -/
theorem everyReadTraceIsListed : Obligations.EveryReadTraceIsListed := by
  intro addr len s ds hp hlo hle hds
  obtain ⟨tr, bytes, hdone, htrace, hholds⟩ := engineRun_readDone addr s hlo hle hds
  refine ⟨readIssued addr len s, _, tr, bytes, exec_read_idle addr len hp, rfl, hdone.trace, htrace, hdone.phase, hdone.done, hdone.err, hdone.rxValid,
    hholds, ?_, ?_⟩
  · exact hdone.report.trans (if_congr (and_iff_right rfl) rfl rfl)
  · exact hdone.reportValid.trans (if_congr (and_iff_right rfl) rfl rfl)

/-- Settles O36: of the listed traces only the full one is without a `TO` and without a NACK (R80). -/
theorem acknowledgedWriteSucceeds : Obligations.AcknowledgedWriteSucceeds := by
  intro addr len s ds hp hlo hle hds hok
  obtain ⟨tr, hdone, htrace⟩ := engineRun_writeDone addr s hlo hle hds
  obtain ⟨tr', htr', hack⟩ := engineRun_acknowledged ds (writeIssued addr len s) hok
  have hsame : tr = tr' := List.append_cancel_left (hdone.trace.symm.trans htr')
  obtain ⟨htr, hc⟩ := writeTrace_acknowledged htrace (hsame ▸ hack)
  rw [htr] at hdone
  refine ⟨writeIssued addr len s, _, exec_write_idle addr len hp, rfl, hdone.trace.trans ?_, hdone.phase, hdone.done, by rw [hdone.err, hc]; rfl, hc, hdone.rxValid⟩
  rw [← List.append_assoc, ← List.append_assoc]
  rfl

/-- Settles O37: the draws of such a READ lead from one position to the next (R81). -/
theorem acknowledgedReadSucceeds : Obligations.AcknowledgedReadSucceeds := by
  intro addr len s d0 d1 d3 init d2 hp hle hlen hds hack
  have hinit : ∀ d ∈ init, d.timeout = false := fun d hd => hds d (by simp [hd])
  obtain ⟨hdone, hc, hholds⟩ := engineRun_read_acknowledged addr s hle hlen (hds d0 (by simp)) (hds d1 (by simp)) hack hinit
    (hds d2 (by simp)) (hds d3 (by simp))
  refine ⟨readIssued addr len s, _, exec_read_idle addr len hp, rfl, hdone.trace.trans ?_, hdone.phase, hdone.done, by rw [hdone.err, hc]; rfl, hc,
    by rw [hdone.rxValid, hc]; rfl, hholds⟩
  rw [← List.append_assoc, ← List.append_assoc]
  rfl

end

/-! PROOFS. The moves of the agents: that each answers (R66, R83), what an engine's turn does, what the host's moves and the reset do to REPORT, TXBUF and the driver (R126, R132 to R141, R175). -/

namespace Sys2Proof.Machine

/-! ### Every move answers a next state (R66) -/

theorem exec_total (i : Instr) (s : State) : ∃ t, exec i s = .next t := by
  cases i <;> exact ⟨_, rfl⟩

theorem perform_total (r : Request) (s : State) : ∃ t, perform r s = .next t := by
  rcases perform_cases r s with ⟨i, _, e⟩ | ⟨_, _, e⟩ <;> rw [e]
  · exact exec_total i s
  · exact ⟨_, rfl⟩

theorem onNext_perform_total (f : State → State) (r : Request) (s : State) : ∃ t, onNext f (perform r s) = .next t := by
  obtain ⟨u, hu⟩ := perform_total r s
  exact ⟨f u, by rw [hu, onNext_next]⟩

theorem hostOp_total (op : HostOp) (s : State) : ∃ t, hostOp op s = .next t := by
  cases op with
  | request r => exact perform_total r s
  | load x r => exact onNext_perform_total _ _ s
  | loadIfOk x r =>
    rw [hostOp]
    split
    · exact ⟨s, rfl⟩
    · exact onNext_perform_total _ _ s
  | poll => exact onNext_perform_total State.pollAgain (readOf .status) s
  | enterHandshaking | enterReady | runInitialize | readReport | finishReport => exact ⟨_, rfl⟩

theorem hostStep_total (s : State) : ∃ t, hostStep s = .next t := by
  unfold hostStep
  split
  · exact ⟨s, rfl⟩
  · exact hostOp_total _ _

theorem step_total (s : State) : ∃ t, step s = .next t := by
  rcases step_cases s with ⟨_, e⟩ | ⟨_, e⟩ | ⟨_, e⟩ <;> rw [e]
  · exact hostStep_total s.passTurn
  · exact ⟨_, rfl⟩
  · exact ⟨_, rfl⟩

/-! ### The engine's turn (R83) -/

theorem engineMove_busy {s : State} (h : s.phase ≠ .idle) : engineMove s = (engineStep s.draw s).dropAnswer := by
  rw [engineMove, if_pos ((busy_eq_true s).2 h)]

/-- The engine's turn with a command in flight: one engine step, its turn and its answer used up. -/
theorem step_engine_busy {s : State} (ht : s.turn = .engine) (hp : s.phase ≠ .idle) :
    step s = .next { engineStep s.draw s with env := ⟨s.env.turns.tail, s.env.answers.tail, s.env.tick + 1⟩ } := by
  obtain ⟨-, -, -, henv, -⟩ := engineStep_frame s.draw s
  rw [step, ht, engineMove_busy hp]
  simp only [State.passTurn, State.dropAnswer, henv]

/-- The engine's turn while IDLE: only its turn is used up. -/
theorem step_engine_idle {s : State} (ht : s.turn = .engine) (hp : s.phase = .idle) :
    step s = .next { s with env := ⟨s.env.turns.tail, s.env.answers, s.env.tick + 1⟩ } := by
  rw [step, ht, engineMove_idle s hp]
  rfl

/-! ### The host's moves on the block -/

theorem exec_report {i : Instr} {s t : State} (h : exec i s = .next t) : t.report = s.report ∧ t.reportValid = s.reportValid := by
  obtain ⟨-, -, -, -, -, hrep, hval, -, -⟩ := exec_frame h
  exact ⟨hrep, hval⟩

theorem perform_report {r : Request} {s t : State} (h : perform r s = .next t) :
    t.report = s.report ∧ t.reportValid = s.reportValid := by
  rcases perform_cases r s with ⟨i, _, e⟩ | ⟨_, _, e⟩ <;> rw [e] at h
  · exact exec_report h
  · cases h; exact ⟨rfl, rfl⟩

theorem hostStep_report {s t : State} (h : hostStep s = .next t) : t.report = s.report ∧ t.reportValid = s.reportValid := by
  rcases hostStep_cases s t h with ⟨r, u, hu, ht⟩ | ht
  · obtain ⟨hrep, hval⟩ := perform_report hu
    exact ⟨by rw [ht]; exact hrep, by rw [ht]; exact hval⟩
  · exact ⟨by rw [ht], by rw [ht]⟩

/-- Only a TXDATA write on the idle block touches TXBUF (R43). -/
theorem exec_txbuf {i : Instr} {s t : State} (h : exec i s = .next t) :
    t.txbuf = s.txbuf ∨ (s.phase = .idle ∧ ∃ v, i = .wrTxdata0 v ∨ i = .wrTxdata1 v) := by
  rcases exec_cases i s t h with e | ⟨hp, v, _, hi, _⟩ | ⟨_, _, _, _, _, e⟩ | ⟨_, _, _, _, _, e⟩ | ⟨_, _, e⟩
  · exact .inl (by rw [e])
  · exact .inr ⟨hp, v, hi⟩
  all_goals exact .inl (by rw [e]; rfl)

theorem perform_txbuf {r : Request} {s t : State} (h : perform r s = .next t) :
    t.txbuf = s.txbuf ∨ (s.phase = .idle ∧ ∃ v, decode r = .ok (.wrTxdata0 v) ∨ decode r = .ok (.wrTxdata1 v)) := by
  rcases perform_cases r s with ⟨i, hd, e⟩ | ⟨_, _, e⟩ <;> rw [e] at h
  · rw [hd]
    rcases exec_txbuf h with ht | ⟨hp, v, hi⟩
    · exact .inl ht
    · exact .inr ⟨hp, v, hi.imp (congrArg Except.ok) (congrArg Except.ok)⟩
  · cases h; exact .inl rfl

/-- The read of a register is no TXDATA write. -/
theorem perform_readOf_txbuf {r : Reg} {s t : State} (h : perform (readOf r) s = .next t) : t.txbuf = s.txbuf := by
  rcases perform_txbuf h with ht | ⟨_, v, hd⟩
  · exact ht
  · rw [decode_readOf] at hd
    cases r <;> simp [readInstr] at hd

theorem hostStep_txbuf {s t : State} (h : hostStep s = .next t) (hne : t.txbuf ≠ s.txbuf) :
    s.phase = .idle ∧ ∃ r v rest, s.host.program = .request r :: rest ∧ (decode r = .ok (.wrTxdata0 v) ∨ decode r = .ok (.wrTxdata1 v)) := by
  unfold hostStep at h
  split at h
  · cases h; exact absurd rfl hne
  · next op rest hprog =>
    rcases hostOp_cases op _ t h with ⟨r, u, hr, hu, ht⟩ | ht
    · have hut : t.txbuf = u.txbuf := by rw [ht]
      rcases hr with rfl | ⟨reg, rfl⟩
      · rcases perform_txbuf hu with hsame | ⟨hp, v, hd⟩
        · exact absurd (hut.trans hsame) hne
        · exact ⟨hp, r, v, rest, hprog, hd⟩
      · exact absurd (hut.trans (perform_readOf_txbuf hu)) hne
    · exact absurd (by rw [ht]; rfl) hne

/-! ### The driver's state (R132, R133) -/

theorem perform_host {r : Request} {s t : State} (h : perform r s = .next t) : t.host = s.host := by
  rcases perform_cases r s with ⟨i, _, e⟩ | ⟨_, _, e⟩ <;> rw [e] at h
  · obtain ⟨-, -, -, -, -, -, -, hhost, -⟩ := exec_frame h
    exact hhost
  · cases h; rfl

/-- An access whose reply the host uses without touching the driver state leaves that state. -/
theorem onNext_perform_driver {f : State → State} {r : Request} {s t : State} (hf : ∀ u, (f u).host.driver = u.host.driver)
    (h : onNext f (perform r s) = .next t) : t.host.driver = s.host.driver := by
  obtain ⟨u, hu, rfl⟩ := onNext_eq_next f _ t h
  rw [hf u, perform_host hu]

theorem keepReply_driver (x : HostVar) (s : State) : (s.keepReply x).host.driver = s.host.driver := by rw [keepReply_eq]

theorem pollAgain_driver (s : State) : s.pollAgain.host.driver = s.host.driver := by rw [pollAgain_eq]

/-- What an operation can do to the driver state: nothing, begin the handshake, or end it. -/
theorem hostOp_driver {op : HostOp} {s t : State} (h : hostOp op s = .next t) :
    t.host.driver = s.host.driver ∨ t.host.driver = .handshaking ∨ (s.host.driver = .handshaking ∧ t.host.driver = .ready) := by
  cases op with
  | request r => exact .inl (by rw [perform_host h])
  | load x r => exact .inl (onNext_perform_driver (keepReply_driver x) h)
  | loadIfOk x r =>
    rw [hostOp] at h
    split at h
    · cases h; exact .inl rfl
    · exact .inl (onNext_perform_driver (keepReply_driver x) h)
  | poll => exact .inl (onNext_perform_driver (r := readOf .status) pollAgain_driver h)
  | enterHandshaking => cases h; exact .inr (.inl rfl)
  | enterReady =>
    cases h
    by_cases hd : s.host.driver = .handshaking
    · exact .inr (.inr ⟨hd, by simp [State.finishInitialize, hd]⟩)
    · exact .inl (by simp [State.finishInitialize, hd])
  | runInitialize => cases h; exact .inl rfl
  | readReport =>
    cases h
    exact .inl (by rw [State.callReadReport]; split <;> rfl)
  | finishReport => cases h; exact .inl rfl

theorem hostStep_driver {s t : State} (h : hostStep s = .next t) :
    t.host.driver = s.host.driver ∨ t.host.driver = .handshaking ∨ (s.host.driver = .handshaking ∧ t.host.driver = .ready) := by
  unfold hostStep at h
  split at h
  · cases h; exact .inl rfl
  · next op _ _ =>
    have hop := hostOp_driver h
    exact hop

theorem engineMove_host (s : State) : (engineMove s).host = s.host := by
  by_cases hp : s.phase = .idle
  · rw [engineMove_idle s hp]
  · obtain ⟨-, -, hhost, -⟩ := engineStep_frame s.draw s
    rw [engineMove_busy hp]
    exact hhost

theorem endsCall_iff (op : HostOp) : endsCall op = true ↔ op = .enterReady ∨ op = .finishReport := by
  cases op <;> simp [endsCall]

/-! ### The driver's calls (R133, R136) -/

/-- The Reading is read back from the three DEC words (R72, R136). -/
theorem readingOfWords_decWords (rd : Reading) : readingOfWords (decAnalogWord rd) (decAccelWord rd) (decButtonsWord rd) = rd := by
  obtain ⟨hx, hy, -⟩ := decAnalogWord_fields rd
  obtain ⟨hax, hay, haz, -⟩ := decAccelWord_fields rd
  obtain ⟨hc, hz, -⟩ := decButtonsWord_fields rd
  rw [readingOfWords, hx, hy, hax, hay, haz, hc, hz]

theorem reportResult_readError {vars : HostVars} (h : statusErr vars.s1 = true) : reportResult vars = .busError (statusCause vars.s1) := by
  rw [reportResult, if_pos h]

theorem reportResult_rearmError {vars : HostVars} (h1 : statusErr vars.s1 = false) (h2 : statusErr vars.s2 = true) :
    reportResult vars = .busError (statusCause vars.s2) := by
  rw [reportResult, if_neg (Bool.eq_false_iff.1 h1), if_pos h2]

theorem reportResult_ok {vars : HostVars} (h1 : statusErr vars.s1 = false) (h2 : statusErr vars.s2 = false) :
    reportResult vars = .reading (readingOfWords vars.a vars.c vars.b) := by
  rw [reportResult, if_neg (Bool.eq_false_iff.1 h1), if_neg (Bool.eq_false_iff.1 h2)]

/-- The POLL operation: one STATUS read, and itself again while BUSY (R74). -/
theorem hostOp_poll (s : State) :
    hostOp .poll s = .next { s with reply := some (statusWord s), host := { s.host with program := if s.phase = .idle then s.host.program else .poll :: s.host.program } } := by
  have hread : perform (readOf .status) s = .next { s with reply := some (statusWord s) } :=
    (perform_readOf .status s).trans (exec_readInstr_valid .status rfl)
  have hbusy : statusBusy (statusWord s) = s.busy := (statusWord_flags s).1
  rw [hostOp, hread, onNext_next, State.pollAgain]
  by_cases hp : s.phase = .idle
  · simp [hbusy, hp]
  · simp [hbusy, hp, State.push]

/-- A dependent read after a success: the register's read, with the reply kept (R75, R136). -/
theorem hostOp_loadIfOk (x : HostVar) (r : Reg) {s : State} (h : statusErr s.host.vars.s1 = false) :
    hostOp (.loadIfOk x r) s = .next ((s.answerIf (readValid r s) (readFault r) (readWord r s)).keepReply x) := by
  rw [hostOp, h, if_neg Bool.false_ne_true, perform_readOf, exec_readInstr, onNext_next]

theorem keepReply_host (x : HostVar) (s : State) :
    (s.keepReply x).host = { s.host with vars := s.reply.elim s.host.vars (s.host.vars.put x) } := by
  rw [State.keepReply]
  cases s.reply <;> rfl

theorem readValid_agents (r : Reg) (s : State) (h : HostAgent) (e : Environment) :
    readValid r { s with host := h, env := e } = readValid r s := by cases r <;> rfl

theorem readWord_agents (r : Reg) (s : State) (h : HostAgent) (e : Environment) :
    readWord r { s with host := h, env := e } = readWord r s := by cases r <;> rfl

end Sys2Proof.Machine

section

open Sys2Proof Sys2Proof.Machine

/-- Settles O40: of all moves only the completion's latch and the reset touch the report (R126, R171). -/
theorem reportIsWrittenOnlyByTheLatch : Obligations.ReportIsWrittenOnlyByTheLatch := by
  intro s t h hne
  have unchanged (hrep : t.report = s.report) (hval : t.reportValid = s.reportValid) : False := hne.elim (· hrep) (· hval)
  cases hturn : s.turn with
  | host =>
    rw [step, hturn] at h
    obtain ⟨hrep, hval⟩ := hostStep_report h
    exact (unchanged hrep hval).elim
  | reset => exact .inl rfl
  | engine =>
    by_cases hp : s.phase = .idle
    · rw [step_engine_idle hturn hp] at h
      cases h
      exact (unchanged rfl rfl).elim
    · rw [step_engine_busy hturn hp] at h
      cases h
      rcases engineStep_report s.draw s with ⟨⟨hstop, ht, hrw, hc, hlen⟩, hidle, hval, hrep⟩ | ⟨hrep, hval⟩
      · exact .inr ⟨rfl, hstop, ht, hrw, hc, hlen, hidle, hval, hrep⟩
      · exact (unchanged hrep hval).elim

/-- Settles O46 (R83). -/
theorem engineTurnIsOneEngineStep : Obligations.EngineTurnIsOneEngineStep := fun _ h =>
  ⟨fun hp => ⟨_, step_engine_busy h hp, rfl, rfl, rfl⟩, fun hp => ⟨_, step_engine_idle h hp, rfl, rfl⟩⟩

/-- Settles O47: no instruction, no operation and no move stops (R66, R83, R157). -/
theorem theMachineNeverStops : Obligations.TheMachineNeverStops := step_total

/-- Settles O54: of the host's operations only a request writes, and the engine never touches TXBUF (R43, R44). -/
theorem onlyTxdataWritesChangeTxbuf : Obligations.OnlyTxdataWritesChangeTxbuf := by
  intro s t h hne
  cases hturn : s.turn with
  | host =>
    rw [step, hturn] at h
    obtain ⟨hp, hrest⟩ := hostStep_txbuf h hne
    exact .inr ⟨rfl, hp, hrest⟩
  | reset => exact .inl rfl
  | engine =>
    by_cases hp : s.phase = .idle
    · rw [step_engine_idle hturn hp] at h
      cases h
      exact absurd rfl hne
    · rw [step_engine_busy hturn hp] at h
      cases h
      exact absurd (engineStep_txbuf s.draw s) hne

/-- Settles O56: the driver state by the operation that moves it, the reset by what it does to a host between calls and in one (R132, R175). -/
theorem driverStatesMoveInOrder : Obligations.DriverStatesMoveInOrder := by
  intro s t h
  refine ⟨fun hne => ?_, fun hturn => ?_⟩
  · rcases step_cases s with ⟨hturn, e⟩ | ⟨_, e⟩ | ⟨hturn, e⟩ <;> rw [e] at h
    · rcases hostStep_driver h with hsame | hhand | ⟨hhand, hready⟩
      · exact absurd hsame hne
      · exact .inl ⟨hturn, hhand⟩
      · exact .inr (.inl ⟨hturn, hhand, hready⟩)
    · cases h
      exact absurd (congrArg HostAgent.driver (engineMove_host s)) hne
    · cases h
      exact .inr (.inr ⟨hturn, rfl⟩)
  · rw [step_reset hturn] at h
    cases h
    refine ⟨rfl, rfl, programAfterReset_noSession s.host, programAfterReset_betweenCalls s.host, fun c body rest last hcall hprog hbody hlast => ⟨?_, ?_⟩⟩
    · have hinside : ∀ op ∈ body, endsCall op = false := fun op hop => by
        obtain ⟨hr, hf⟩ := hbody op hop
        rw [← Bool.not_eq_true, endsCall_iff]
        exact fun h => h.elim hr hf
      exact programAfterReset_inCall s.host c body rest last hcall hprog hinside ((endsCall_iff last).2 hlast)
    · rintro rfl
      exact if_pos hcall

/-- Settles O57 (R141). -/
theorem readReportNeedsASession : Obligations.ReadReportNeedsASession := by
  intro s rest hturn hprog hready
  have hstep := step_host s .readReport rest hturn hprog
  rw [hostOp, State.callReadReport, if_neg (by exact hready), passTurn_popOp_eq hprog] at hstep
  exact ⟨_, hstep, rfl, rfl, rfl, rfl⟩

/-- Settles O58: the result is that of `reportResult`, and a success gives back the Reading that the words were packed from (R136, R137). -/
theorem readFailureIsReportedFirst : Obligations.ReadFailureIsReportedFirst := by
  intro s rest hturn hprog
  have hstep := step_host s .finishReport rest hturn hprog
  rw [hostOp, passTurn_popOp_eq hprog] at hstep
  refine ⟨_, hstep, rfl, rfl, fun h1 => ?_, fun h1 h2 => ?_, fun h1 h2 r ha hc hb => ?_⟩
  · exact congrArg some (reportResult_readError h1)
  · exact congrArg some (reportResult_rearmError h1 h2)
  · have hreading : readingOfWords s.host.vars.a s.host.vars.c s.host.vars.b = decodeReport r := by
      rw [ha, hc, hb, readingOfWords_decWords]
    exact congrArg some ((reportResult_ok h1 h2).trans (congrArg ReportResult.reading hreading))

/-- Settles O59: each operation is followed to the program it leaves (R74, R75, R133, R136). -/
theorem driverCallsIssueTheirOperations : Obligations.DriverCallsIssueTheirOperations := by
  intro s op rest hturn hprog
  have hstep := step_host s op rest hturn hprog
  rw [passTurn_popOp_eq hprog] at hstep
  refine ⟨fun hop hready => ?_, fun hop => ?_, fun hop => ?_, fun x r hop => ⟨fun herr => ?_, fun herr => ?_⟩⟩ <;> subst hop
  · rw [hostOp, State.callReadReport, if_pos (by exact hready)] at hstep
    exact ⟨_, hstep, rfl, rfl⟩
  · exact ⟨_, hstep, rfl, rfl⟩
  · rw [hostOp_poll] at hstep
    exact ⟨_, hstep, rfl, rfl⟩
  · rw [hostOp, if_pos (by exact herr)] at hstep
    exact ⟨_, hstep, rfl⟩
  · rw [hostOp_loadIfOk x r (by exact herr), readValid_agents, readWord_agents] at hstep
    refine ⟨_, hstep, ?_⟩
    rw [exec_readInstr, keepReply_eq, keepReply_host]
    cases readValid r s <;> exact ⟨rfl, rfl, rfl⟩

end

/-! PROOFS. The report decoder read backwards (42_report_decoder.md), and the lines of 41_bus_signalling.md: clock pulses (R112), data validity (R102, R103, R109, R110) and the order of the bits (R107, R108, R111). -/

namespace Sys2Proof.Machine

/-! ### The report of a Reading (R117 to R123) -/

/-- Byte 5 of a report: the low pairs of the three axes, and the two inverted buttons (R119 to R123). -/
def byte5 (z y x : BitVec 2) (c d : Bool) : Byte := z ++ y ++ x ++ BitVec.ofBool c ++ BitVec.ofBool d

/-- The report that decodes to a Reading: each axis is split into its high byte and its two bits of byte 5, the buttons are inverted. -/
def reportOfReading (rd : Reading) : Report where
  b0 := rd.analogX
  b1 := rd.analogY
  b2 := rd.accelX.extractLsb' 2 8
  b3 := rd.accelY.extractLsb' 2 8
  b4 := rd.accelZ.extractLsb' 2 8
  b5 := byte5 (rd.accelZ.extractLsb' 0 2) (rd.accelY.extractLsb' 0 2) (rd.accelX.extractLsb' 0 2) (!rd.buttonC) (!rd.buttonZ)

theorem byte5_fields (z y x : BitVec 2) (c d : Bool) :
    (byte5 z y x c d).extractLsb' 6 2 = z ∧ (byte5 z y x c d).extractLsb' 4 2 = y ∧ (byte5 z y x c d).extractLsb' 2 2 = x
      ∧ (byte5 z y x c d).getLsbD 1 = c ∧ (byte5 z y x c d).getLsbD 0 = d := by
  simp (disch := decide) only [byte5, BitVec.getLsbD_append, BitVec.extractLsb'_append_eq_of_le, BitVec.extractLsb'_append_eq_of_add_le]
  simp

theorem byte5_of_fields (b : Byte) :
    byte5 (b.extractLsb' 6 2) (b.extractLsb' 4 2) (b.extractLsb' 2 2) (b.getLsbD 1) (b.getLsbD 0) = b := by
  apply BitVec.eq_of_getLsbD_eq
  intro i hi
  simp only [byte5, BitVec.getLsbD_append, BitVec.getLsbD_extractLsb']
  interval_cases i <;> simp

theorem axis_split (x : BitVec 10) : x.extractLsb' 2 8 ++ x.extractLsb' 0 2 = x :=
  BitVec.extractLsb'_append_extractLsb' (w := 8) (len := 2)

theorem decodeReport_reportOfReading (rd : Reading) : decodeReport (reportOfReading rd) = rd := by
  obtain ⟨hz, hy, hx, hc, hd⟩ := byte5_fields (rd.accelZ.extractLsb' 0 2) (rd.accelY.extractLsb' 0 2) (rd.accelX.extractLsb' 0 2)
    (!rd.buttonC) (!rd.buttonZ)
  simp only [decodeReport, reportOfReading, accelField_eq_append, hz, hy, hx, hc, hd, axis_split, Bool.not_not]

theorem reportOfReading_decodeReport (r : Report) : reportOfReading (decodeReport r) = r := by
  have hi (b : Byte) (t : BitVec 2) : (b ++ t).extractLsb' 2 8 = b := BitVec.extractLsb'_append_eq_left
  have lo (b : Byte) (t : BitVec 2) : (b ++ t).extractLsb' 0 2 = t := BitVec.extractLsb'_append_eq_right
  simp only [decodeReport, reportOfReading, accelField_eq_append, hi, lo, Bool.not_not, byte5_of_fields]

/-! ### Clock pulses (R112) -/

theorem symbolPulses_tx (b : Byte) (a : Ack) : symbolPulses (.tx b a) = 9 := rfl

theorem symbolPulses_rx (b : Byte) (a : Ack) : symbolPulses (.rx b a) = 9 := rfl

theorem symbolPulses_eq (y : Symbol) : symbolPulses y = if isByteSymbol y then 9 else 0 := by
  cases y with
  | tx b a => exact symbolPulses_tx b a
  | rx b a => exact symbolPulses_rx b a
  | s | p | timeoutRelease => rfl

theorem tracePulses_eq (tr : List Symbol) : tracePulses tr = 9 * (tr.filter isByteSymbol).length := by
  induction tr with
  | nil => rfl
  | cons y tr ih =>
    have hcons : tracePulses (y :: tr) = symbolPulses y + tracePulses tr := List.sum_cons
    rw [hcons, ih, symbolPulses_eq, List.filter_cons]
    split
    · rw [List.length_cons]; omega
    · omega

theorem sentBytes_byteSymbols (buf : Buf) (n : Nat) : ((sentBytes buf n).filter isByteSymbol).length = n := by
  have hall : ∀ y ∈ sentBytes buf n, isByteSymbol y = true := by
    intro y hy
    obtain ⟨k, -, rfl⟩ := List.mem_map.1 hy
    rfl
  rw [List.filter_eq_self.2 hall, sentBytes, List.length_map, List.length_range]

theorem receivedBytes_byteSymbols (bytes : List Byte) : ((receivedBytes bytes).filter isByteSymbol).length = bytes.length := by
  have hall : ∀ y ∈ receivedBytes bytes, isByteSymbol y = true := by
    intro y hy
    obtain ⟨b, -, rfl⟩ := List.mem_map.1 hy
    rfl
  rw [List.filter_eq_self.2 hall, receivedBytes, List.length_map]

/-! ### Data validity (R102, R110) -/

/-- The sequence keeps data validity from any setting that holds SCL low. -/
def ValidFromLow (ls : List LineStep) : Prop := ∀ prev : LineStep, prev.sclLow = true → dataValid prev ls = true

theorem validFromLow_nil : ValidFromLow [] := fun _ _ => rfl

/-- A bit sent changes SDA with SCL low only, and leaves SCL low. -/
theorem validFromLow_sendBit (d : Bool) {ls : List LineStep} (h : ValidFromLow ls) : ValidFromLow (sendBitLines d ++ ls) := by
  intro prev hp
  simpa [sendBitLines, dataValid, hp] using h ⟨true, !d, false, false⟩ rfl

/-- A bit received releases SDA with SCL low, samples it with SCL released, and leaves SCL low. -/
theorem validFromLow_recvBit {ls : List LineStep} (h : ValidFromLow ls) : ValidFromLow (recvBitLines ++ ls) := by
  intro prev hp
  simpa [recvBitLines, dataValid, hp] using h ⟨true, false, false, false⟩ rfl

theorem validFromLow_sendBits (bits : List Bool) {ls : List LineStep} (h : ValidFromLow ls) :
    ValidFromLow (bits.flatMap sendBitLines ++ ls) := by
  induction bits with
  | nil => exact h
  | cons d bits ih =>
    rw [List.flatMap_cons, List.append_assoc]
    exact validFromLow_sendBit d ih

theorem validFromLow_recvBits (n : Nat) {ls : List LineStep} (h : ValidFromLow ls) :
    ValidFromLow ((List.replicate n recvBitLines).flatten ++ ls) := by
  induction n with
  | zero => exact h
  | succ n ih =>
    rw [List.replicate_succ, List.flatten_cons, List.append_assoc]
    exact validFromLow_recvBit ih

theorem validFromLow_txLines (b : Byte) : ValidFromLow (txLines b) :=
  validFromLow_sendBits (wireBits b) (validFromLow_recvBit validFromLow_nil)

theorem validFromLow_rxLines (a : Ack) : ValidFromLow (rxLines a) :=
  validFromLow_recvBits 8 (validFromLow_sendBit (ackBit a) validFromLow_nil)

/-! ### Bits and bytes (R108, R111) -/

theorem assembleBits_concat (bits : List Bool) (d : Bool) :
    assembleBits (bits ++ [d]) = (assembleBits bits <<< 1) ||| (BitVec.ofBool d).setWidth 8 := by
  simp [assembleBits]

/-- The bits assembled stand in the byte with the last one received lowest. -/
theorem getLsbD_assembleBits (bits : List Bool) (i : Nat) : (assembleBits bits).getLsbD i = (decide (i < 8) && bits.reverse.getD i false) := by
  induction bits using List.reverseRecOn generalizing i with
  | nil => simp [assembleBits]
  | append_singleton bits d ih =>
    rw [assembleBits_concat, BitVec.getLsbD_or, BitVec.getLsbD_shiftLeft, ih, List.reverse_append]
    cases i with
    | zero => simp
    | succ i =>
      by_cases h : i + 1 < 8
      · have hi : i < 8 := Nat.lt_of_succ_lt h
        simp [h, hi]
      · simp [h]

theorem assembleBits_wireBits (b : Byte) : assembleBits (wireBits b) = b := by
  apply BitVec.eq_of_getLsbD_eq
  intro i hi
  rw [getLsbD_assembleBits]
  interval_cases i <;> rfl

theorem wireBits_assembleBits (d7 d6 d5 d4 d3 d2 d1 d0 : Bool) :
    wireBits (assembleBits [d7, d6, d5, d4, d3, d2, d1, d0]) = [d7, d6, d5, d4, d3, d2, d1, d0] := by
  simp only [wireBits, getLsbD_assembleBits]
  rfl

end Sys2Proof.Machine

section

open Sys2Proof Sys2Proof.Machine

/-- Settles O39: `reportOfReading` is the inverse of the decoder on both sides. -/
theorem decoderIsABijection : Obligations.DecoderIsABijection := by
  refine ⟨fun r q h => ?_, fun rd => ⟨reportOfReading rd, decodeReport_reportOfReading rd⟩, fun r => ?_⟩
  · rw [← reportOfReading_decodeReport r, h, reportOfReading_decodeReport]
  · exact ⟨Nat.le_of_lt_succ (BitVec.isLt _), Nat.le_of_lt_succ (BitVec.isLt _), Nat.le_of_lt_succ (BitVec.isLt _),
      Nat.le_of_lt_succ (BitVec.isLt _), Nat.le_of_lt_succ (BitVec.isLt _)⟩

/-- Settles O41: a trace has nine pulses for each byte symbol, so its byte symbols are counted (R112). -/
theorem ninePulsesForEachByte : Obligations.NinePulsesForEachByte := by
  refine ⟨rfl, rfl, fun b a => ⟨symbolPulses_tx b a, symbolPulses_rx b a⟩, fun tr => ?_, fun ab buf len => ?_, fun ab init d => ?_⟩
  · rw [tracePulses_eq, List.filter_append]
    simp [isByteSymbol]
  · rw [tracePulses_eq, List.filter_append, List.filter_append, List.length_append, List.length_append, sentBytes_byteSymbols]
    show 9 * (1 + len + 0) = 9 * (len + 1)
    omega
  · rw [tracePulses_eq, List.filter_append, List.filter_append, List.length_append, List.length_append, receivedBytes_byteSymbols, List.length_append]
    show 9 * (1 + init.length + 1) = 9 * (init.length + 1 + 1)
    omega

/-- Settles O42: the symbols of a byte are made of bits, each of which leaves SCL low; START, STOP and the release are single settings
(R102, R103, R109, R110). -/
theorem dataChangesOnlyWhileClockIsLow : Obligations.DataChangesOnlyWhileClockIsLow := by
  refine ⟨fun prev b a h => ⟨validFromLow_txLines b prev h, validFromLow_rxLines a prev h⟩, rfl, rfl, rfl, rfl, rfl, fun prev h => ?_,
    fun l pull => ?_⟩
  · simp [stopLines, dataValid, h]
  · simp [releaseMakesStop, sclIn, and_comm]

/-- Settles O43: the settings are counted off bit by bit, and a byte's bits in wire order are the byte (R107, R108, R111). -/
theorem bytesGoMostSignificantBitFirst : Obligations.BytesGoMostSignificantBitFirst := by
  refine ⟨fun b k hk => ?_, fun b => ⟨rfl, rfl, assembleBits_wireBits b⟩, fun a k hk => ?_, fun a => ⟨?_, rfl⟩, wireBits_assembleBits,
    fun pulls => ?_⟩
  · interval_cases k <;> rfl
  · interval_cases k <;> rfl
  · cases a <;> rfl
  · cases pulls <;> rfl

end

/-! PROOFS. The line level and the byte level, 41_bus_signalling.md section 3 (R100 to R114): the symbol read off a sequence is the engine's, and every draw is sampled of some target. -/

namespace Sys2Proof.Machine

/-! ### The symbol read off a whole sequence (R107, R108, R112) -/

theorem readSymbol_startLines (samples : List Bool) : readSymbol startLines samples = .s := rfl

theorem readSymbol_stopLines (samples : List Bool) : readSymbol stopLines samples = .p := rfl

/-- The clocks of a TX symbol carry the byte's bits, released for a 1, and the first sample is the target's acknowledge. -/
theorem readSymbol_txLines (b : Byte) (samples : List Bool) : readSymbol (txLines b) samples = .tx b (ackOfLevel (samples.headD true)) := by
  have hbits : readSymbol (txLines b) samples = .tx (assembleBits ((wireBits b).map (fun d => !(!d)))) (ackOfLevel (samples.headD true)) := rfl
  rw [hbits]
  simp only [Bool.not_not, List.map_id', assembleBits_wireBits]

theorem readSymbol_rxLines (a : Ack) (samples : List Bool) : readSymbol (rxLines a) samples = .rx (assembleBits samples) a := by
  cases a <;> rfl

theorem lineRun_symbol_timeout {w : TargetLine} {s : State} (h : (lineRun w s).expired = true) :
    (lineRun w s).symbol = .timeoutRelease := if_pos h

/-- A sequence that runs to its end is read as the whole sequence of the phase. -/
theorem lineRun_symbol {w : TargetLine} {s : State} {ls : List LineStep} (h : (lineRun w s).expired = false) (hls : pendingLines s = ls) :
    (lineRun w s).symbol = readSymbol ls (lineRun w s).samples := by
  obtain ⟨-, happlied⟩ := lineRun_applied w s
  rw [LineRun.symbol, h, if_neg Bool.false_ne_true, happlied h, hls]

theorem stepAddr_trace (a : Ack) (s : State) : (stepAddr a s).trace = s.trace ++ [.tx (addrByte s.curAddr s.curRw) a] := by
  cases a <;> rfl

theorem stepWdata_trace (a : Ack) (s : State) : (stepWdata a s).trace = s.trace ++ [.tx (s.txbuf.get s.idx) a] := by
  cases a with
  | nack => rfl
  | ack => exact nextByte_trace _

theorem stepRdata_trace (b : Byte) (s : State) : (stepRdata b s).trace = s.trace ++ [.rx b s.readAck] := nextByte_trace _

/-- The symbol the engine emits under the draws sampled is the one read off the lines. -/
theorem engineStep_sampledDraw_trace (w : TargetLine) {s : State} (hbusy : s.phase ≠ .idle) :
    (engineStep (sampledDraw w s) s).trace = s.trace ++ [(lineRun w s).symbol] := by
  rcases engineStep_cases (sampledDraw w s) s with ⟨hi, _⟩ | ⟨_, ht, e⟩ | ⟨ht, hp, e⟩ | ⟨ht, hp, e⟩ | ⟨ht, hp, e⟩ | ⟨ht, hp, e⟩ | ⟨ht, hp, e⟩
  · exact absurd hi hbusy
  · rw [e, timeoutAbort_eq, lineRun_symbol_timeout ht]
  · rw [e, lineRun_symbol (ls := startLines) ht (by rw [pendingLines, hp]), readSymbol_startLines]; rfl
  · rw [e, lineRun_symbol (ls := txLines (addrByte s.curAddr s.curRw)) ht (by rw [pendingLines, hp]), readSymbol_txLines, stepAddr_trace]; rfl
  · rw [e, lineRun_symbol (ls := txLines (s.txbuf.get s.idx)) ht (by rw [pendingLines, hp]), readSymbol_txLines, stepWdata_trace]; rfl
  · rw [e, lineRun_symbol (ls := rxLines s.readAck) ht (by rw [pendingLines, hp]), readSymbol_rxLines, stepRdata_trace]; rfl
  · rw [e, lineRun_symbol (ls := stopLines) ht (by rw [pendingLines, hp]), readSymbol_stopLines, stepStop_eq]

theorem engineRun_sampledDraws_trace (ws : List TargetLine) (s : State) :
    (engineRun (sampledDraws ws s) s).trace = s.trace ++ lineTrace ws s := by
  induction ws generalizing s with
  | nil => simp [sampledDraws, engineRun, lineTrace]
  | cons w ws ih =>
    by_cases hp : s.phase = .idle
    · rw [engineRun_idle _ s hp, lineTrace, (busy_eq_false s).2 hp]
      simp
    · rw [sampledDraws, engineRun, ih, engineStep_sampledDraw_trace w hp, lineTrace, if_pos ((busy_eq_true s).2 hp), List.append_assoc,
        List.singleton_append]

/-! ### A target for every draw (R100, R106, R114) -/

/-- The settings that wait release SCL, and those that sample release SDA: what is seen there is the target's. -/
def LeavesToTarget (ls : List LineStep) : Prop :=
  ∀ l ∈ ls, (l.waitScl = true → l.sclLow = false) ∧ (l.sample = true → l.sdaLow = false)

theorem leavesToTarget_pendingLines (s : State) : LeavesToTarget (pendingLines s) := by
  have tx (b : Byte) : LeavesToTarget (txLines b) := by
    simp [LeavesToTarget, txLines, sendBitLines, recvBitLines, or_imp, forall_and]
  have rx (a : Ack) : LeavesToTarget (rxLines a) := by cases a <;> simp +decide [LeavesToTarget]
  rw [pendingLines]
  cases s.phase with
  | idle => exact nofun
  | start => simp [LeavesToTarget, startLines]
  | stop => simp [LeavesToTarget, stopLines]
  | addr => exact tx _
  | wdata => exact tx _
  | rdata => exact rx _

/-- A look that does not pull SCL ends any setting. -/
theorem settle_singleton {l : LineStep} {k : Look} (hl : l.waitScl = true → l.sclLow = false) (hk : k.pullsScl = false) :
    l.settle [k] = some k := by
  cases hw : l.waitScl with
  | false => simp [LineStep.settle, hw]
  | true => simp [LineStep.settle, hw, sclIn, hl hw, hk]

/-- A setting is passed at a look that does not pull SCL. -/
theorem runLines_look (pull : Bool) {l : LineStep} {k : Look} (ls : List LineStep) (looks : List (List Look))
    (hl : l.waitScl = true → l.sclLow = false) (hk : k.pullsScl = false) :
    runLines pull (l :: ls) ([k] :: looks) = (runLines k.pullsScl ls looks).after l k :=
  runLines_some pull l ls ([k] :: looks) k (settle_singleton hl hk)

/-- A wait without a look never ends. -/
theorem runLines_noLook (pull : Bool) {l : LineStep} (ls : List LineStep) (looks : List (List Look)) (hw : l.waitScl = true) :
    runLines pull (l :: ls) ([] :: looks) = ⟨[l], [], true, false⟩ :=
  runLines_none pull l ls ([] :: looks) (by rw [LineStep.settle, if_pos hw]; rfl)

/-- The looks of a target that never pulls SCL and sets SDA to the levels given, one for each sampling setting. -/
def looksFor : List LineStep → List Bool → List (List Look)
  | [], _ => []
  | l :: ls, levels =>
    if l.sample then [⟨false, !levels.headD true⟩] :: looksFor ls levels.tail else [Look.free] :: looksFor ls levels

theorem runLines_looksFor (pull : Bool) {ls : List LineStep} {levels : List Bool} (h : LeavesToTarget ls)
    (hlen : (ls.filter (·.sample)).length = levels.length) :
    (runLines pull ls (looksFor ls levels)).expired = false ∧ (runLines pull ls (looksFor ls levels)).samples = levels := by
  induction ls generalizing pull levels with
  | nil => exact ⟨rfl, (List.length_eq_zero_iff.1 hlen.symm).symm⟩
  | cons l ls ih =>
    obtain ⟨hwait, hsda⟩ := h l (by simp)
    have hrest : LeavesToTarget ls := fun m hm => h m (by simp [hm])
    cases hs : l.sample with
    | false =>
      rw [List.filter_cons_of_neg (by simp [hs])] at hlen
      rw [looksFor, hs, if_neg Bool.false_ne_true, runLines_look pull ls _ hwait rfl]
      simpa [hs] using ih _ hrest hlen
    | true =>
      rw [List.filter_cons_of_pos hs, List.length_cons] at hlen
      obtain ⟨d, ds, rfl⟩ := List.exists_cons_of_length_eq_add_one hlen.symm
      rw [looksFor, hs, if_pos rfl, runLines_look pull ls _ hwait rfl]
      simpa [hs, sdaIn, hsda hs] using ih false hrest (Nat.succ.inj hlen)

/-- The looks of a target that pulls nothing for `k` settings and then never lets the next wait end. -/
def looksUntil : Nat → List (List Look)
  | 0 => [[]]
  | k + 1 => [Look.free] :: looksUntil k

theorem runLines_looksUntil (pull : Bool) {ls : List LineStep} {k : Nat} {l : LineStep} (h : LeavesToTarget ls) (hk : ls[k]? = some l)
    (hw : l.waitScl = true) :
    (runLines pull ls (looksUntil k)).expired = true ∧ (runLines pull ls (looksUntil k)).applied.length = k + 1 := by
  induction ls generalizing pull k with
  | nil => cases hk
  | cons m ms ih =>
    obtain ⟨hwait, -⟩ := h m (by simp)
    cases k with
    | zero =>
      cases hk
      rw [looksUntil, runLines_noLook pull ms _ hw]
      exact ⟨rfl, rfl⟩
    | succ k =>
      obtain ⟨hexp, hlen⟩ := ih Look.free.pullsScl (fun x hx => h x (by simp [hx])) (by simpa using hk)
      rw [looksUntil, runLines_look pull ms _ hwait rfl]
      exact ⟨hexp, congrArg Nat.succ hlen⟩

/-- With the bus seen idle at once, the run is that of the phase's sequence. -/
theorem lineRun_idleBus (looks : List (List Look)) (s : State) :
    lineRun ⟨[Look.free], looks⟩ s = runLines false (pendingLines s) looks := by
  have hfree : [Look.free].any busFree = true := by decide
  rw [lineRun, hfree]
  exact if_neg (by simp)

/-- In every phase but IDLE the block comes to a wait. -/
theorem exists_atWait {s : State} (hbusy : s.phase ≠ .idle) : ∃ k, AtWait s k := by
  cases hp : s.phase with
  | idle => exact absurd hp hbusy
  | start => exact ⟨0, .inl ⟨hp, rfl⟩⟩
  | addr | wdata | rdata | stop => exact ⟨2, .inr ⟨_, by decide, by rw [pendingLines, hp]; rfl, rfl⟩⟩

/-- At every wait a timeout can strike, with the settings up to it applied. -/
theorem exists_target_of_atWait {s : State} {k : Nat} (h : AtWait s k) :
    ∃ w, (lineRun w s).expired = true ∧ (lineRun w s).applied.length = k := by
  rcases h with ⟨hp, rfl⟩ | ⟨l, hpos, hl, hw⟩
  · exact ⟨⟨[], []⟩, by simp [lineRun, hp], by simp [lineRun, hp]⟩
  · obtain ⟨hexp, hlen⟩ := runLines_looksUntil false (leavesToTarget_pendingLines s) hl hw
    refine ⟨⟨[Look.free], looksUntil (k - 1)⟩, ?_, ?_⟩
    · rw [lineRun_idleBus]; exact hexp
    · rw [lineRun_idleBus, hlen]; omega

/-- The levels of SDA that the phase's sequence samples for a draw: the acknowledge of a byte sent, the bits of a byte received. -/
def drawnLevels (d : Draw) (s : State) : List Bool :=
  match s.phase with
  | .addr | .wdata => [ackBit d.ack]
  | .rdata => wireBits d.byte
  | .idle | .start | .stop => []

theorem drawnLevels_length (d : Draw) (s : State) : ((pendingLines s).filter (·.sample)).length = (drawnLevels d s).length := by
  cases hp : s.phase <;> rw [pendingLines, drawnLevels, hp]
  case rdata => cases s.readAck <;> rfl
  all_goals rfl

theorem ackOfLevel_ackBit (a : Ack) : ackOfLevel (ackBit a) = a := by cases a <;> rfl

/-- An engine step without a timeout looks at the acknowledge and at the byte only as far as its phase samples them. -/
theorem engineStep_congr {d e : Draw} {s : State} (hd : d.timeout = false) (he : e.timeout = false)
    (hack : s.phase = .addr ∨ s.phase = .wdata → d.ack = e.ack) (hbyte : s.phase = .rdata → d.byte = e.byte) :
    engineStep d s = engineStep e s := by
  by_cases hbusy : s.phase = .idle
  · rw [engineStep_idle d s hbusy, engineStep_idle e s hbusy]
  rw [engineStep_noTimeout hbusy hd, engineStep_noTimeout hbusy he, phaseStep, phaseStep]
  cases hp : s.phase with
  | idle | start | stop => rfl
  | addr => simp only [hack (.inl hp)]
  | wdata => simp only [hack (.inr hp)]
  | rdata => simp only [hbyte hp]

/-- For a draw without a timeout there is a target of which the step samples it. -/
theorem exists_target_answering {d : Draw} (s : State) (ht : d.timeout = false) :
    ∃ w, engineStep (sampledDraw w s) s = engineStep d s := by
  obtain ⟨hexp, hsamples⟩ := runLines_looksFor false (leavesToTarget_pendingLines s) (drawnLevels_length d s)
  refine ⟨⟨[Look.free], looksFor (pendingLines s) (drawnLevels d s)⟩, engineStep_congr ?_ ht (fun hp => ?_) (fun hp => ?_)⟩
  · rw [sampledDraw, lineRun_idleBus]
    exact hexp
  · have hlevels : drawnLevels d s = [ackBit d.ack] := by rcases hp with hp | hp <;> rw [drawnLevels, hp]
    rw [sampledDraw, lineRun_idleBus, hsamples, hlevels]
    exact ackOfLevel_ackBit d.ack
  · have hlevels : drawnLevels d s = wireBits d.byte := by rw [drawnLevels, hp]
    rw [sampledDraw, lineRun_idleBus, hsamples, hlevels]
    exact assembleBits_wireBits d.byte

/-- A sampled timeout is the abort with the settings applied so far on record. -/
theorem engineStep_sampledDraw_expired {w : TargetLine} {s : State} (hbusy : s.phase ≠ .idle) (h : (lineRun w s).expired = true) :
    engineStep (sampledDraw w s) s = timeoutAbort (lineRun w s).applied.length s := engineStep_timeout hbusy h

/-- Two aborts of one state differ in the record only (R110). -/
theorem timeoutAbort_congr (j k : Nat) (s : State) : timeoutAbort j s = { timeoutAbort k s with lines := (timeoutAbort j s).lines } := by
  rw [timeoutAbort_eq, timeoutAbort_eq]

/-- Every draw has a target of which the step samples as much as the step's rule reads. -/
theorem exists_target (d : Draw) (s : State) :
    ∃ w, engineStep (sampledDraw w s) s = { engineStep d s with lines := (engineStep (sampledDraw w s) s).lines }
      ∧ (d.timeout = false ∨ AtWait s d.abortAt → (engineStep (sampledDraw w s) s).lines = (engineStep d s).lines) := by
  by_cases hbusy : s.phase = .idle
  · exact ⟨⟨[], []⟩, by simp only [engineStep_idle _ s hbusy], fun _ => by simp only [engineStep_idle _ s hbusy]⟩
  cases ht : d.timeout with
  | false =>
    obtain ⟨w, hw⟩ := exists_target_answering s ht
    exact ⟨w, by rw [hw], fun _ => by rw [hw]⟩
  | true =>
    rw [engineStep_timeout hbusy ht]
    by_cases hat : AtWait s d.abortAt
    · obtain ⟨w, hexp, hlen⟩ := exists_target_of_atWait hat
      have hw := engineStep_sampledDraw_expired hbusy hexp
      rw [hlen] at hw
      exact ⟨w, by rw [hw], fun _ => by rw [hw]⟩
    · obtain ⟨k, hk⟩ := exists_atWait hbusy
      obtain ⟨w, hexp, -⟩ := exists_target_of_atWait hk
      have hw := engineStep_sampledDraw_expired hbusy hexp
      refine ⟨w, ?_, fun h => absurd h (by simp [hat])⟩
      rw [hw]
      exact timeoutAbort_congr _ _ s

end Sys2Proof.Machine

section

open Sys2Proof Sys2Proof.Machine

/-- Settles O60: step by step the symbol read off the lines is the engine's; a timeout strikes in a wait; and for each draw a target is
built, which answers the bits it stands for or holds SCL at the wait (R106, R110, R114). -/
theorem lineRunLeavesTheSameTrace : Obligations.LineRunLeavesTheSameTrace :=
  ⟨engineRun_sampledDraws_trace, lineRun_expires_atWait, exists_target⟩

end
